-- ==== Sys2Proof/Word.lean ====
section
/-! DEFINITION. The two word types of the CPU08 (spec/10_state.md R20, spec/20_memory.md R50).

A byte is what every memory access carries (R56); a word is a 16-bit address or register (R4). Byte order, slicing and
sign extension are operations of the machine and stand in Machine/Bits.lean. -/

namespace Sys2Proof

/-- Eight bits: the content of one address (R50) and the width of A, H, X and CCR (R4). -/
abbrev Byte := BitVec 8

/-- Sixteen bits: an address, H:X, SP and PC (R4). -/
abbrev Word := BitVec 16

end Sys2Proof
end

