-- ==== Sys2Proof/Machine/Bits.lean ====
section
/-! DEFINITION. Byte order, slicing and extension of words: the notation of spec/00_scope.md R6 and R7, the byte order of
spec/20_memory.md R54 and spec/30_encoding.md R83. -/

namespace Sys2Proof

/-- `h:l`, the word whose bits 15..8 are `h` and bits 7..0 are `l` (R6). -/
def joinBytes (h l : Byte) : Word := h ++ l

/-- `w[15:8]` (R6). -/
def hiByte (w : Word) : Byte := w.extractLsb' 8 8

/-- `w[7:0]` (R6). -/
def loByte (w : Word) : Byte := w.extractLsb' 0 8

/-- `sext_16(v)`: bits 15..8 all equal to `v[7]` (R7). -/
def sext16 (v : Byte) : Word := v.signExtend 16

/-- `zext_16(v)`: bits 15..8 zero (R7). -/
def zext16 (v : Byte) : Word := v.setWidth 16

/-- The mask `1 << n` of a bit instruction (R85). -/
def bitMask (n : BitVec 3) : Byte := 1#8 <<< n.toNat

end Sys2Proof
end

