-- ==== Sys2Proof/Config.lean ====
section
/-! DEFINITION. What an implementation fixes (the parameters of spec/00_scope.md R4) and the free values: constants with no
body for what the spec leaves open, so that nothing can be proved of their values. -/

namespace Sys2Proof

/-- The six chips of the family (parameter VARIANT of R4, decision D15). -/
inductive Variant where
  | qt1 | qt2 | qt4 | qy1 | qy2 | qy4
deriving DecidableEq, Repr

/-- The parameters the spec carries by name. They are held in State (`State.cfg`) so that a claim about every state is a
claim about every choice of them; no step changes them. -/
structure Params where
  /-- VARIANT: which chip (R4, D15). -/
  variant : Variant
  /-- STACK_XFER_ADJ = 1 (`true`) or 0 (`false`): the offset TSX and TXS apply (R143, R144, D7, C7). -/
  stackXferAdj : Bool
  /-- CLI_DELAY = 1 (`true`) or 0 (`false`): whether the instruction after a CLI or TAP that clears I runs before a pending
  interrupt is taken (R301, D13). -/
  cliDelay : Bool
deriving DecidableEq, Repr

/-- The values the spec calls "any value" (`any8`, `any1` of R8): the n-th one drawn in a run. State counts the draws.
Safe: no body, so no proof can learn a value. -/
opaque Config.freeByte : Nat → Byte

/-- The bytes of the auxiliary ROM and of the monitor ROM, a platform parameter (R4, U25). Safe: no body. -/
opaque Config.romByte : Nat → Byte

/-- Which place of the monitor ROM holds the PULH and RTI of its RUN command, a part of the platform's ROM (R4, R358, U25).
Safe: no body. -/
opaque Config.runSlot : Nat

/-- Whether a byte written to CONFIG2 sets IRQEN; the bit's position is in no rule (R41, NS5). Safe: no body. -/
opaque Config.irqEnOf : Byte → Bool

/-- Whether a byte written to CONFIG2 turns PTA3 into /RST; the bit's position is in no rule (R41, NS5). Safe: no body. -/
opaque Config.rstEnOf : Byte → Bool

/-- Whether a byte written to BRKSCR has BRKA = 1; the bit's position is in no rule (R44, NS27). Safe: no body. -/
opaque Config.brkaOf : Byte → Bool

/-- Whether a byte written to BRKSCR enables the address comparison; the bit is in no rule (R346, NS27). Safe: no body. -/
opaque Config.brkeOf : Byte → Bool

/-- Whether a byte written to FLCR sets a program or erase bit; the bits are in no rule (R43, NS26, D11). Safe: no body. -/
opaque Config.flcrActiveOf : Byte → Bool

/-- Whether a byte written to an I/O address sets the acknowledge bit of ISCR; neither the register's address nor the bit's
place is in a rule (R46, NS24). Safe: no body. -/
opaque Config.irqAckOf : Nat → Byte → Bool

/-- Whether a byte written to an I/O address sets the counter reset bit of TSC; neither the register's address nor the bit's
place is in a rule (R46, NS21). Safe: no body. -/
opaque Config.timResetOf : Nat → Byte → Bool

/-- Whether the chip enters monitor mode under pin levels that R360's table does not list (VTST on /IRQ with other levels on
/RST, PTA1 and PTA4), with a programmed reset vector. Safe: no body. -/
opaque Config.monitorOutsideTable : Nat → Bool

end Sys2Proof
end

