-- ==== Sys2Proof/Machine/Defaults.lean ====
section
/-! DEFINITION. The choice of the spec's open parameters in State.reset. Every other choice is a state of its own. -/

namespace Sys2Proof.Machine

/-- The parameters State.reset holds: the largest chip, and for the two open parameters (D7, D13) the value the spec gives
for "a model that is to match the silicon". DESIGN CHOICE (log 5), unsafe for a claim about State.reset alone. -/
def defaultParams : Params :=
  { variant := .qy4, stackXferAdj := true, cliDelay := true }

end Sys2Proof.Machine
end

