-- ==== Sys2Proof/Machine/Memory.lean ====
section
/-! DEFINITION. The address map of spec/20_memory.md R51 and the memory as a canonical list of cells.

A memory is a list of (address, byte) pairs, addresses strictly rising, no entry equal to what an unlisted address reads
as; so two memories that read alike are the same list. -/

namespace Sys2Proof.Machine

/-- What stands at an address (R51, R59). -/
inductive Region where
  /-- I/O and system registers: $0000-$003F and $FE00-$FE0C less $FE07 (R58). -/
  | device
  /-- Reserved addresses: $0040-$007F, $FE07, $FE0D-$FE0F, $FFBF, $FFC1 (R59). -/
  | reserved
  /-- $0080-$00FF (R61). -/
  | ram
  /-- The "not implemented" rows of R51. -/
  | unimplemented
  /-- Auxiliary ROM $2800-$2DFF and monitor ROM $FE10-$FFAF (R51, R60). -/
  | rom
  /-- User FLASH, the FLASH rows above $FFB0 and the vectors (R51, R52). -/
  | flash
deriving DecidableEq, Repr

/-- FLASH_BASE by chip (R4, R52). -/
def flashBase : Variant → Nat
  | .qt4 => 0xEE00
  | .qy4 => 0xEE00
  | .qt1 => 0xF800
  | .qt2 => 0xF800
  | .qy1 => 0xF800
  | .qy2 => 0xF800

/-- HAS_ADC by chip (R4). -/
def hasAdc : Variant → Bool
  | .qt1 => false
  | .qy1 => false
  | .qt2 => true
  | .qt4 => true
  | .qy2 => true
  | .qy4 => true

/-- HAS_PTB by chip (R4). -/
def hasPtb : Variant → Bool
  | .qt1 => false
  | .qt2 => false
  | .qt4 => false
  | .qy1 => true
  | .qy2 => true
  | .qy4 => true

/-- The memory map of R51. -/
def region (p : Params) (a : Nat) : Region :=
  if a < 0x0040 then .device
  else if a < 0x0080 then .reserved
  else if a < 0x0100 then .ram
  else if a < 0x2800 then .unimplemented
  else if a < 0x2E00 then .rom
  else if a < flashBase p.variant then .unimplemented
  else if a < 0xFE00 then .flash
  else if a = 0xFE07 then .reserved
  else if a < 0xFE0D then .device
  else if a < 0xFE10 then .reserved
  else if a < 0xFFB0 then .rom
  else if a = 0xFFBF then .reserved
  else if a = 0xFFC1 then .reserved
  else .flash

/-- Whether an address can be accessed as data at all (R59, D10): not in a reserved and not in an unimplemented row. -/
def accessible (p : Params) (a : Nat) : Bool :=
  match region p a with
  | .reserved => false
  | .unimplemented => false
  | .device => true
  | .ram => true
  | .rom => true
  | .flash => true

/-- The memory: see the head of this file. -/
abbrev Memory := List Host.Cell

/-- Where the monitor ROM holds the PULH and RTI of its RUN command: anywhere in $FE10-$FFAF but over the vectors
$FEFC-$FEFF (R51, R357, R358; the place is a platform parameter, log 54). -/
def monitorRunAt : Nat :=
  let k := Config.runSlot % 410
  if k < 235 then 0xFE10 + k else 0xFF00 + (k - 235)

/-- A byte of the monitor ROM: PULH and RTI for RUN (R134, R282, R358), the platform's byte elsewhere (R4). -/
def monitorRomByte (a : Nat) : Byte :=
  if a = monitorRunAt then 0x8A#8 else if a = monitorRunAt + 1 then 0x80#8 else Config.romByte a

/-- What an address with no cell reads as. FLASH: $FF, the erased byte (R52). ROM: the platform's byte (R4), with
the monitor's RUN (R358). RAM: $00
(DESIGN CHOICE, log 3, unsafe: the spec calls it any value, U2). A device register's cell (the byte the CPU last wrote
there): $00 until it is written (log 10). -/
def Memory.unlisted (a : Nat) : Byte :=
  if a < 0x0100 then 0x00#8
  else if a < 0x2800 then 0xFF#8
  else if a < 0x2E00 then Config.romByte a
  else if a < 0xFE00 then 0xFF#8
  else if a < 0xFE10 then 0x00#8
  else if a < 0xFFB0 then monitorRomByte a
  else 0xFF#8

/-- The byte at address `a`. -/
def Memory.read : Memory → Nat → Byte
  | [], a => Memory.unlisted a
  | (b, v) :: m, a => if b = a then v else Memory.read m a

/-- Puts `v` at address `a`, in canonical form: a cell equal to `unlisted` is not kept. -/
def Memory.write : Memory → Nat → Byte → Memory
  | [], a, v => if v = Memory.unlisted a then [] else [(a, v)]
  | (b, w) :: m, a, v =>
    if b < a then (b, w) :: Memory.write m a v
    else if b = a then (if v = Memory.unlisted a then m else (a, v) :: m)
    else (if v = Memory.unlisted a then (b, w) :: m else (a, v) :: (b, w) :: m)

/-- The canonical form from address `lo` on. -/
def Memory.wfFrom : Nat → Memory → Bool
  | _, [] => true
  | lo, (a, v) :: m => decide (lo ≤ a) && decide (a < 0x10000) && (v != Memory.unlisted a) && Memory.wfFrom (a + 1) m

/-- The canonical form: addresses strictly rising and inside the 64 Kbyte space, no cell equal to `unlisted`. -/
def Memory.wf (m : Memory) : Bool := Memory.wfFrom 0 m

/-- Puts a list of bytes at rising addresses from `a` on, modulo 2^16 (R63). -/
def Memory.writeAll : Memory → Nat → List Byte → Memory
  | m, _, [] => m
  | m, a, v :: vs => Memory.writeAll (m.write (a % 0x10000) v) (a + 1) vs

/-- The cells that are no device register's: what a reset keeps of the list (R370 step 2, R373). -/
def Memory.dropDevices (p : Params) (m : Memory) : Memory :=
  m.filter fun c => decide (region p c.1 ≠ .device)

/-- RAM after a power-on (U2): the byte at $0080 + k becomes the free value `n + k`, for every k below `count`. -/
def Memory.freeRam (m : Memory) (n : Nat) : Nat → Memory
  | 0 => m
  | k + 1 => (Memory.freeRam m n k).write (0x0080 + k) (Config.freeByte (n + k))

/-- The listed bytes of RAM become the free values `n`, `n + 1` and so on (D28, U23). -/
def Memory.freeBytes (m : Memory) (p : Params) (n : Nat) : List Word → Memory
  | [] => m
  | a :: l =>
    if region p a.toNat = .ram then (Memory.freeBytes m p (n + 1) l).write a.toNat (Config.freeByte n)
    else Memory.freeBytes m p (n + 1) l

end Sys2Proof.Machine
end

