-- ==== Sys2Proof/Machine/State.lean ====
section
/-! DEFINITION. The state of the machine, plain data: the CPU registers (spec/10_state.md R20 to R32), the run state and mode
(R35, R36), memory, the system and module registers (R37 to R46, spec/60_exceptions.md R361 to R369), the inputs the
environment holds (spec/00_scope.md R11), the parameters (R4), and the model's own counters. Also the reasons a step can
stop, and State.reset. -/

namespace Sys2Proof.Machine

/-- The six condition codes that are state (R25). Bits 6 and 5 of CCR are always 1 and no state (R32, D32). -/
structure Flags where
  /-- V, overflow, bit 7 (R26). -/
  v : Bool
  /-- Hf, half carry, bit 4 (R27). -/
  h : Bool
  /-- I, interrupt mask, bit 3 (R28). -/
  i : Bool
  /-- N, negative, bit 2 (R29). -/
  n : Bool
  /-- Z, zero, bit 1 (R30). -/
  z : Bool
  /-- C, carry or borrow, bit 0 (R31). -/
  c : Bool
deriving DecidableEq, Repr

/-- The run states of R35. -/
inductive RunState where
  | running | waiting | stopped
deriving DecidableEq, Repr

/-- The operating modes of R36, which select vectors and are no privilege level (R356). -/
inductive Mode where
  | user | monitor
deriving DecidableEq, Repr

/-- The maskable interrupt sources of R324, highest priority first. -/
inductive IntSource where
  /-- /IRQ pin, IF1. -/
  | irq
  /-- Timer channel 0, IF3. -/
  | tim0
  /-- Timer channel 1, IF4. -/
  | tim1
  /-- Timer overflow, IF5. -/
  | timOverflow
  /-- Keyboard, IF14. -/
  | keyboard
  /-- ADC conversion complete, IF15. -/
  | adc
deriving DecidableEq, Repr

/-- The reset causes of R312. -/
inductive ResetCause where
  /-- Power-on (R313). -/
  | por
  /-- The /RST pin (R314). -/
  | pin
  /-- Watchdog overflow (R315). -/
  | cop
  /-- Illegal opcode, or STOP while it is not enabled (R316). -/
  | ilop
  /-- Opcode fetch from an unimplemented address (R317). -/
  | ilad
  /-- Low voltage (R318). -/
  | lvi
deriving DecidableEq, Repr

/-- Where a break stands (R346, R347): no break routine runs; one runs; its RTI has just ended it, and the displaced
instruction is still to run (log 16). -/
inductive BreakPhase where
  | idle | serving | returned
deriving DecidableEq, Repr

/-- The system integration module, its registers and its hidden state (R34, R38 to R43, R361, R368). -/
structure Sim where
  /-- SRSR, $FE01 (R38). -/
  srsr : Byte
  /-- Resets requested by the environment and not yet taken, a bit per cause in SRSR's layout (R312). -/
  resetReq : Byte
  /-- The interrupt latched for service (R34, R328). -/
  intLatch : Option IntSource
  /-- CONFIG1 (R40). -/
  config1 : Byte
  /-- CONFIG1 has been written since the last reset (R40: writable once). -/
  config1Written : Bool
  /-- CONFIG2 (R41). -/
  config2 : Byte
  /-- CONFIG2 has been written since the last reset (R40: writable once). -/
  config2Written : Bool
  /-- The 12-bit SIM counter (R361, R368). -/
  counter : BitVec 12
  /-- The 6-bit COP counter (R368). -/
  cop : BitVec 6
  /-- The model's own: BUSCLKX4 cycles the COP has counted since it was serviced or reset, against its timeout (R368). -/
  copTime : Nat
  /-- FLCR's program or erase bits are set (R43, D11). -/
  flashBusy : Bool
  /-- The /RST function was made active by the entry to monitor mode (R360, first row). -/
  rstForced : Bool
  /-- The monitor has checked eight security bytes since the last power-on (R313, R359). -/
  securityDone : Bool
  /-- Those bytes matched, so the monitor may read FLASH (R359). -/
  monitorUnlocked : Bool
deriving DecidableEq, Repr

/-- The BREAK module (R44, R346, R347). -/
structure Break where
  /-- BRKH:BRKL, $FE09:$FE0A. -/
  addr : Word
  /-- The comparison of `addr` with the program counter is enabled. -/
  enable : Bool
  /-- A break is requested (BRKA written 1, or the environment, D25). -/
  request : Bool
  /-- Whether a break routine runs. -/
  phase : BreakPhase
deriving DecidableEq, Repr

/-- The /IRQ module (R366): ISCR's latch, mask and trigger mode. -/
structure IrqModule where
  /-- The /IRQ latch, flag IRQF1 (R34, R329). -/
  latch : Bool
  /-- IMASK1: 1 blocks the request (R324). -/
  mask : Bool
  /-- Edge and level (1) or edge only (0). -/
  levelMode : Bool
deriving DecidableEq, Repr

/-- The keyboard module (R367). -/
structure KbiModule where
  /-- KEYF. -/
  flag : Bool
  /-- IMASKK: 1 blocks the request (R324). -/
  mask : Bool
  /-- MODEK: edge and level (1) or edge only (0). -/
  levelMode : Bool
  /-- The enable bit of each of PTA0 to PTA5. -/
  pinEnable : BitVec 6
  /-- The enable bit of the auto-wake-up input. -/
  wakeEnable : Bool
deriving DecidableEq, Repr

/-- What an output compare does to its pin (R363). -/
inductive CompareAction where
  | none | toggle | clear | set
deriving DecidableEq, Repr

/-- A timer channel's function (R363). -/
inductive ChannelMode where
  | off
  /-- Input capture on a rising edge, a falling edge, or both. -/
  | capture (rising falling : Bool)
  | compare (action : CompareAction)
deriving DecidableEq, Repr

/-- A timer channel (R46, R363). -/
structure TimChannel where
  mode : ChannelMode
  /-- TCHxH:TCHxL. -/
  value : Word
  /-- CHxF. -/
  flag : Bool
  /-- CHxIE: 1 lets the request through (R324). -/
  intEnable : Bool
  /-- Toggle the pin when the counter overflows (PWM). -/
  toggleOnOverflow : Bool
deriving DecidableEq, Repr

/-- The timer module (R46, R363). -/
structure TimModule where
  counter : Word
  /-- TMODH:TMODL, the maximum count. -/
  modulo : Word
  /-- PS[2:0]. -/
  prescale : BitVec 3
  /-- The counter stop bit. -/
  stop : Bool
  /-- TOF. -/
  overflow : Bool
  /-- TOIE: 1 lets the request through (R324). -/
  overflowEnable : Bool
  /-- Oscillator cycles since the last count. -/
  subCount : Nat
  ch0 : TimChannel
  ch1 : TimChannel
  /-- The channels are linked into one buffered compare or PWM channel on TCH0 (R363, log 49). -/
  buffered : Bool
  /-- While they are linked: TCH1H:TCH1L is in control, not TCH0H:TCH0L (log 49). -/
  useCh1 : Bool
  /-- While they are linked: which one is in control after the next overflow (log 49). -/
  nextCh1 : Bool
deriving DecidableEq, Repr

/-- The analog-to-digital converter (R364), absent on QT1 and QY1. -/
structure AdcModule where
  /-- COCO. -/
  flag : Bool
  /-- AIEN: 1 lets the request through (R324). -/
  intEnable : Bool
  /-- The ADC data register. -/
  data : Byte
  /-- The channel selected (AD0 to AD3), if one is. -/
  channel : Option (BitVec 2)
  /-- ADCVIN: the sample of the selected channel, as the 8 bits a conversion makes of it. -/
  vin : Byte
  /-- A conversion is in progress. -/
  converting : Bool
  /-- Continuous conversion (1) or single (0). -/
  continuous : Bool
  /-- The clock selection register. -/
  clockSelect : Byte
deriving DecidableEq, Repr

/-- The port registers (R46, R365). -/
structure Ports where
  ptaData : Byte
  ptbData : Byte
  ddra : Byte
  ddrb : Byte
  pullUpA : Byte
  pullUpB : Byte
  /-- OSC2EN (R362). -/
  osc2en : Bool
deriving DecidableEq, Repr

/-- The four clock sources of R362. -/
inductive OscSource where
  | internal | externalClock | externalRC | crystal
deriving DecidableEq, Repr

/-- The oscillator (R43, R362). -/
structure OscModule where
  source : OscSource
  /-- The OSCTRIM register. -/
  trim : Byte
deriving DecidableEq, Repr

/-- Every module register that is named without an address (R46), by module. -/
structure Modules where
  irq : IrqModule
  kbi : KbiModule
  tim : TimModule
  adc : AdcModule
  ports : Ports
  osc : OscModule
deriving DecidableEq, Repr

/-- What stands on the pins (R48: an input, not the CPU's). -/
structure Pins where
  /-- Levels of PTA0 to PTA5; bit 2 is the /IRQ pin (R366). -/
  pta : BitVec 6
  /-- Levels of PTB0 to PTB7. -/
  ptb : Byte
  /-- VTST stands on /IRQ (R360). -/
  irqVtst : Bool
  /-- The voltage at AD0, in 256ths of the converter's range (R364). -/
  ad0 : Byte
  /-- The voltage at AD1. -/
  ad1 : Byte
  /-- The voltage at AD2. -/
  ad2 : Byte
  /-- The voltage at AD3. -/
  ad3 : Byte
  /-- VDD is below the LVI trip point (R369). -/
  vddLow : Bool
deriving DecidableEq, Repr

/-- What the monitor's host can send (R358, R359; log 39). -/
inductive HostCommand where
  /-- READ: one byte of memory. -/
  | read (addr : Word)
  /-- WRITE: one byte of memory. -/
  | write (addr : Word) (v : Byte)
  /-- IREAD: the two bytes after the last address accessed. -/
  | readNext
  /-- IWRITE: one byte at the last address accessed + 1. -/
  | writeNext (v : Byte)
  /-- READSP: the stack pointer. -/
  | readSp
  /-- RUN: execute PULH and RTI. -/
  | run
  /-- The eight security bytes. -/
  | securityKey (key : List Byte)
deriving DecidableEq, Repr

/-- How far an entry to the monitor has come (R358). -/
inductive MonitorEntry where
  /-- Its SWI has run, its PSHH has not. -/
  | begun
  /-- Its PSHH has run too, its RUN has not come. -/
  | made
deriving DecidableEq, Repr

/-- The monitor and its link to its host computer (R358). -/
structure HostLink where
  /-- The last address a command accessed, for IREAD and IWRITE. -/
  last : Word
  /-- The bytes the last reading command answered. -/
  answer : List Byte
  /-- The command that has come and is still to be served. -/
  command : Option HostCommand
  /-- The entries to the monitor that no RUN has taken back, the last one first (log 39). -/
  entries : List MonitorEntry
deriving DecidableEq, Repr

/-- What an environment agent (R11) can do at an instruction boundary, or before an access to a device register. -/
inductive EnvEvent where
  /-- Power is applied (R313). -/
  | powerOn
  /-- A low pulse on /RST that leaves the level as it is, heard only while the pin has that function (R314, log 53). -/
  | resetPin
  /-- A break is forced (R346, D25). -/
  | forceBreak
  /-- The pins take these levels (R365, R366, R367). -/
  | pins (pta : BitVec 6) (ptb : Byte) (irqVtst : Bool)
  /-- The analog inputs take these levels (R364). -/
  | analog (ad0 ad1 ad2 ad3 : Byte)
  /-- VDD goes below the trip point, or back above it (R369). -/
  | supply (low : Bool)
  /-- This many BUSCLKX4 cycles pass (R361, R363, R368). -/
  | clocks (n : Nat)
  /-- The modules' registers become these: the answer of the devices to the CPU's writes, and all that they do of
  themselves (R58, NS40). -/
  | modules (m : Modules)
  /-- The ADC samples the selected channel (R364). -/
  | adcSample
  /-- An ADC conversion completes (R364). -/
  | adcDone
  /-- The auto-wake-up input fires (R367). -/
  | autoWake
  /-- The monitor's host sends a command. -/
  | host (c : HostCommand)
deriving DecidableEq, Repr

/-- The state of the machine. -/
structure State where
  /-- Accumulator A (R21). -/
  a : Byte
  /-- H, the high byte of the index register (R22). -/
  h : Byte
  /-- X, the low byte of the index register (R22). -/
  x : Byte
  /-- Stack pointer: the next free address (R23). -/
  sp : Word
  /-- Program counter (R24). -/
  pc : Word
  /-- Condition codes (R25). -/
  ccr : Flags
  /-- Running, waiting or stopped (R35). -/
  run : RunState
  /-- User or monitor (R36). -/
  mode : Mode
  /-- The next boundary takes no maskable interrupt (R301, CLI_DELAY). -/
  irqHold : Bool
  /-- The 64 Kbyte space (R50). -/
  mem : Memory
  /-- System integration module. -/
  sim : Sim
  /-- BREAK module. -/
  brk : Break
  /-- The other modules' registers. -/
  mods : Modules
  /-- The pins. -/
  pins : Pins
  /-- The monitor's link to its host (R358). -/
  link : HostLink
  /-- The parameters of R4: constant. -/
  cfg : Params
  /-- The model's own: how many free values have been drawn. -/
  free : Nat
  /-- The model's own: the RAM addresses the last instruction changed (R67, D6). -/
  justStored : List Word
  /-- The model's own: the RAM addresses the last instruction or exception entry wrote (R311, D28). -/
  written : List Word
  /-- The model's own: what the environment does at the coming boundaries, one batch each. -/
  inputs : List (List EnvEvent)
  /-- The model's own: what the devices do before the coming accesses to a device register, one batch each (R66, R69). -/
  midInputs : List (List EnvEvent)
deriving DecidableEq, Repr

/-- The reasons a run stops with a fault. -/
inductive Fault where
  /-- Raised by a data access, a stack access or an operand fetch at an address of an unimplemented row of the memory map
  (R59, D10, U4). Safe: the machine goes on there, in a way the spec does not give. -/
  | unimplementedAccess (addr : Word)
deriving DecidableEq, Repr

/-- The situations the model gives no meaning. -/
inductive Refusal where
  /-- Raised by exec for an instruction that has no meaning yet. Safe. -/
  | notModelled (mnemonic : String)
  /-- Raised by a data access, a stack access or an operand fetch at a reserved address ("efeitos imprevisíveis", R59, U3).
  Safe. -/
  | reservedAccess (addr : Word)
  /-- Raised by an opcode fetch from a reserved address (R59, U6). Safe. -/
  | reservedFetch (addr : Word)
  /-- Raised by an opcode fetch from an I/O or system register (R317). Safe. -/
  | deviceFetch (addr : Word)
  /-- Raised by a store to FLASH while FLCR's program or erase bits are set (D11, U25). Safe. -/
  | flashProgramming (addr : Word)
  /-- Raised when an instruction is about to run of which the instruction before it changed a byte (R67, D6, U20). Safe. -/
  | storeIntoNext (addr : Word)
deriving DecidableEq, Repr

/-- What a step or a meaning answers. -/
abbrev Out := Host.Outcome State Fault Refusal

/-- The system integration module after a power-on (R47, R313; CONFIG1 by D18, GK19; see logs 13 to 17). -/
def Sim.reset : Sim :=
  { srsr := 0x80#8, resetReq := 0x00#8, intLatch := none, config1 := 0x00#8, config1Written := false,
    config2 := 0x00#8, config2Written := false, counter := 0#12, cop := 0#6, copTime := 0, flashBusy := false,
    rstForced := false, securityDone := false, monitorUnlocked := false }

/-- The BREAK module after a reset: disabled (D25, NS47; BRKH:BRKL PRESUMED, log 24). -/
def Break.reset : Break := { addr := 0x0000#16, enable := false, request := false, phase := .idle }

/-- A timer channel after a reset (PRESUMED, log 24). -/
def TimChannel.reset : TimChannel :=
  { mode := .off, value := 0x0000#16, flag := false, intEnable := false, toggleOnOverflow := false }

/-- The modules' registers after a reset: data directions 0, /IRQ latch clear, interrupt enables off, internal oscillator
(R47, NS47); the rest PRESUMED, the family's values (log 24, unsafe). -/
def Modules.reset : Modules :=
  { irq := { latch := false, mask := false, levelMode := false },
    kbi := { flag := false, mask := false, levelMode := false, pinEnable := 0#6, wakeEnable := false },
    tim := { counter := 0x0000#16, modulo := 0xFFFF#16, prescale := 0#3, stop := true, overflow := false,
             overflowEnable := false, subCount := 0, ch0 := TimChannel.reset, ch1 := TimChannel.reset,
             buffered := false, useCh1 := false, nextCh1 := false },
    adc := { flag := false, intEnable := false, data := 0x00#8, channel := none, vin := 0x00#8, converting := false,
             continuous := false, clockSelect := 0x00#8 },
    ports := { ptaData := 0x00#8, ptbData := 0x00#8, ddra := 0x00#8, ddrb := 0x00#8, pullUpA := 0x00#8,
               pullUpB := 0x00#8, osc2en := false },
    osc := { source := .internal, trim := 0x80#8 } }

/-- The machine right after a power-on reset of an erased part (R47, R313, R370, R371): nothing is listed in memory, so the
reset vector reads $FFFF and the chip enters monitor mode, with the internal oscillator as /IRQ is low (R360, R373), its PC
from $FEFE:$FEFF in the monitor ROM. The values of A, X, V, Hf, N, Z, C are zero by DESIGN CHOICE (log 1, unsafe); the pins'
levels by log 48. -/
def State.reset : State :=
  { a := 0x00#8, h := 0x00#8, x := 0x00#8, sp := 0x00FF#16,
    pc := joinBytes (Memory.unlisted 0xFEFE) (Memory.unlisted 0xFEFF),
    ccr := { v := false, h := false, i := true, n := false, z := false, c := false },
    run := .running, mode := .monitor, irqHold := false, mem := [],
    sim := Sim.reset, brk := Break.reset, mods := Modules.reset,
    pins := { pta := 0x3B#6, ptb := 0xFF#8, irqVtst := false, ad0 := 0x00#8, ad1 := 0x00#8, ad2 := 0x00#8, ad3 := 0x00#8,
              vddLow := false },
    link := { last := 0x0000#16, answer := [], command := none, entries := [] },
    cfg := defaultParams, free := 0, justStored := [], written := [], inputs := [], midInputs := [] }

/-- H:X as one word (R22). -/
def State.hx (s : State) : Word := joinBytes s.h s.x

/-- The state with another A. -/
def State.setA (s : State) (v : Byte) : State := { s with a := v }

/-- The state with another H. -/
def State.setH (s : State) (v : Byte) : State := { s with h := v }

/-- The state with another X. -/
def State.setX (s : State) (v : Byte) : State := { s with x := v }

/-- The state with another H:X (R22). -/
def State.setHX (s : State) (v : Word) : State := { s with h := hiByte v, x := loByte v }

/-- The state with another SP. -/
def State.setSp (s : State) (v : Word) : State := { s with sp := v }

/-- The state with another PC. -/
def State.setPc (s : State) (v : Word) : State := { s with pc := v }

/-- The state with other condition codes. -/
def State.setCcr (s : State) (f : Flags) : State := { s with ccr := f }

/-- The state in another run state. -/
def State.setRun (s : State) (r : RunState) : State := { s with run := r }

/-- The state with the hold of R301 set or released. -/
def State.setIrqHold (s : State) (b : Bool) : State := { s with irqHold := b }

/-- The state with another memory. -/
def State.setMem (s : State) (m : Memory) : State := { s with mem := m }

/-- The state with another system integration module. -/
def State.setSim (s : State) (m : Sim) : State := { s with sim := m }

/-- The state with another BREAK module. -/
def State.setBrk (s : State) (b : Break) : State := { s with brk := b }

/-- The state with other module registers. -/
def State.setMods (s : State) (m : Modules) : State := { s with mods := m }

/-- The state with other pins. -/
def State.setPins (s : State) (p : Pins) : State := { s with pins := p }

/-- The state after `n` more free values have been drawn. -/
def State.drew (s : State) (n : Nat) : State := { s with free := s.free + n }

/-- The state with another list of bytes just changed. -/
def State.setJustStored (s : State) (l : List Word) : State := { s with justStored := l }

/-- The state with another list of bytes just written. -/
def State.setWritten (s : State) (l : List Word) : State := { s with written := l }

/-- The state with another link to the monitor's host. -/
def State.setLink (s : State) (l : HostLink) : State := { s with link := l }

/-- The state with other batches for the coming device accesses. -/
def State.setMidInputs (s : State) (l : List (List EnvEvent)) : State := { s with midInputs := l }

end Sys2Proof.Machine
end

