-- ==== Sys2Proof/Machine/Pins.lean ====
section
/-! DEFINITION. The configuration bits (spec/10_state.md R40, R41) and which module owns each pin of port A
(spec/60_exceptions.md R362, R365: the priorities of AP Tabela 3). -/

namespace Sys2Proof.Machine

/-- CONFIG1 bit 0, COPD: 1 disables the COP (R40). -/
def Sim.copDisabled (m : Sim) : Bool := m.config1.getLsbD 0

/-- CONFIG1 bit 1: the STOP instruction is enabled, the parameter STOP_ENABLED (R40, R296). -/
def Sim.stopEnabled (m : Sim) : Bool := m.config1.getLsbD 1

/-- CONFIG1 bit 4, LVIPWRD: 0 enables the LVI (R40, R369). -/
def Sim.lviPowered (m : Sim) : Bool := !m.config1.getLsbD 4

/-- CONFIG1 bit 5, LVIRSTD: 0 enables the LVI's reset (R40, R369). -/
def Sim.lviResets (m : Sim) : Bool := !m.config1.getLsbD 5

/-- CONFIG1 bit 6, LVISTOP: 1 keeps the LVI working in STOP (R40, R369). -/
def Sim.lviInStop (m : Sim) : Bool := m.config1.getLsbD 6

/-- CONFIG1 bit 7, COPRS: 1 selects the short COP timeout (R40, R368, GK19). -/
def Sim.copShort (m : Sim) : Bool := m.config1.getLsbD 7

/-- The COP timeout in BUSCLKX4 cycles (R368). -/
def Sim.copTimeout (m : Sim) : Nat := if m.copShort then 2 ^ 13 - 2 ^ 4 else 2 ^ 18 - 2 ^ 4

/-- IRQEN: PTA2 works as /IRQ; off until CONFIG2 is written (R41, R47). -/
def Sim.irqEn (m : Sim) : Bool := m.config2Written && Config.irqEnOf m.config2

/-- PTA3 works as /RST: made so by the entry to monitor mode with VTST (R360), else off until CONFIG2 is written (R41, R47). -/
def Sim.rstEn (m : Sim) : Bool := m.rstForced || (m.config2Written && Config.rstEnOf m.config2)

/-- The level at the /IRQ pin, PTA2 (R241, R366); VTST is above VDD (R360). -/
def State.irqPinHigh (s : State) : Bool := s.pins.irqVtst || s.pins.pta.getLsbD 2

/-- What a pin of port A works as (R365). -/
inductive PinFunction where
  | adc | timer | oscillator | irq | rst | keyboard | port
deriving DecidableEq, Repr

/-- The ADC owns the pin of the channel it has selected (R364). -/
def State.adcOwns (s : State) (k : BitVec 2) : Bool := hasAdc s.cfg.variant && s.mods.adc.channel == some k

/-- A channel that captures, or whose compare acts on the pin, owns it (R363, log 22). -/
def TimChannel.usesPin (ch : TimChannel) : Bool :=
  match ch.mode with
  | .off => false
  | .capture _ _ => true
  | .compare act => act != .none

/-- TCH0 belongs to the timer. -/
def TimModule.uses0 (t : TimModule) : Bool := t.ch0.usesPin

/-- TCH1 belongs to the timer; linked to channel 0 it does not (log 49). -/
def TimModule.uses1 (t : TimModule) : Bool := t.ch1.usesPin && !t.buffered

/-- OSC1 belongs to the oscillator with every source but the internal one (R362). -/
def Modules.usesOsc1 (m : Modules) : Bool := m.osc.source != .internal

/-- OSC2 belongs to the oscillator: always with a crystal, by OSC2EN with the internal and the RC oscillator, never with an
external clock (R362). -/
def Modules.usesOsc2 (m : Modules) : Bool :=
  match m.osc.source with
  | .crystal => true
  | .internal => m.ports.osc2en
  | .externalRC => m.ports.osc2en
  | .externalClock => false

/-- What pin PTAn works as, by the priorities of AP Tabela 3 (R365). -/
def State.pinFunction (s : State) (n : Nat) : PinFunction :=
  let digital : PinFunction := if s.mods.kbi.pinEnable.getLsbD n then .keyboard else .port
  match n with
  | 0 => if s.adcOwns 0#2 then .adc else if s.mods.tim.uses0 then .timer else digital
  | 1 => if s.adcOwns 1#2 then .adc else if s.mods.tim.uses1 then .timer else digital
  | 2 => if s.sim.irqEn then .irq else digital
  | 3 => if s.sim.rstEn then .rst else digital
  | 4 => if s.mods.usesOsc2 then .oscillator else if s.adcOwns 2#2 then .adc else digital
  | 5 => if s.mods.usesOsc1 then .oscillator else if s.adcOwns 3#2 then .adc else digital
  | _ => digital

/-- The pins of port A that work as `f`, a bit each. -/
def State.pinsAs (s : State) (f : PinFunction) : BitVec 6 :=
  ((((BitVec.ofBool (s.pinFunction 5 == f) ++ BitVec.ofBool (s.pinFunction 4 == f)) ++
    BitVec.ofBool (s.pinFunction 3 == f)) ++ BitVec.ofBool (s.pinFunction 2 == f)) ++
    BitVec.ofBool (s.pinFunction 1 == f)) ++ BitVec.ofBool (s.pinFunction 0 == f)

/-- Whether a pin that works as a keyboard input is at logic 0 under the levels `pta` (R367). -/
def State.keyLow (s : State) (pta : BitVec 6) : Bool := decide (pta &&& s.pinsAs .keyboard ≠ s.pinsAs .keyboard)

end Sys2Proof.Machine
end

