-- ==== Sys2Proof/Machine/Pending.lean ====
section
/-! DEFINITION. What the modules request of the CPU: the interrupt sources that are pending and enabled, their priority and
vectors, the resets that are due (spec/10_state.md R39; spec/60_exceptions.md R323 to R327, R340, R350, R369). -/

namespace Sys2Proof.Machine

/-- Whether a source is pending and enabled (R324, R325, R366, R367). The level modes keep requesting while the pin is
low (log 25, log 21). -/
def State.requests (s : State) (src : IntSource) : Bool :=
  match src with
  | .irq => (s.mods.irq.latch || (s.mods.irq.levelMode && s.sim.irqEn && !s.irqPinHigh)) && !s.mods.irq.mask
  | .tim0 => s.mods.tim.ch0.flag && s.mods.tim.ch0.intEnable
  | .tim1 => s.mods.tim.ch1.flag && s.mods.tim.ch1.intEnable
  | .timOverflow => s.mods.tim.overflow && s.mods.tim.overflowEnable
  | .keyboard => (s.mods.kbi.flag || (s.mods.kbi.levelMode && s.keyLow s.pins.pta)) && !s.mods.kbi.mask
  | .adc => hasAdc s.cfg.variant && s.mods.adc.flag && s.mods.adc.intEnable

/-- The IF number of a source (R324). -/
def IntSource.number : IntSource → Nat
  | .irq => 1
  | .tim0 => 3
  | .tim1 => 4
  | .timOverflow => 5
  | .keyboard => 14
  | .adc => 15

/-- `vector(IFn) = $FFFC - 2*n` (R53, R323). -/
def IntSource.vector (src : IntSource) : Word := 0xFFFC#16 - 2#16 * BitVec.ofNat 16 src.number

/-- The sources, highest priority first (R324). -/
def IntSource.byPriority : List IntSource := [.irq, .tim0, .tim1, .timOverflow, .keyboard, .adc]

/-- The sources that can end a stop: they need no clock (R350). -/
def IntSource.worksInStop : IntSource → Bool
  | .irq => true
  | .tim0 => false
  | .tim1 => false
  | .timOverflow => false
  | .keyboard => true
  | .adc => false

/-- Whether a source is served at this boundary if nothing is above it (R326, R350). -/
def State.canServe (s : State) (src : IntSource) : Bool :=
  s.requests src && (decide (s.run ≠ .stopped) || src.worksInStop)

/-- The source the SIM serves (R327); one it has latched already goes first (R34, R328). -/
def State.served (s : State) : Option IntSource :=
  match s.sim.intLatch with
  | some src => some src
  | none => IntSource.byPriority.find? s.canServe

/-- SRSR's bit for a cause (R38). -/
def ResetCause.bit : ResetCause → Byte
  | .por => 0x80#8
  | .pin => 0x40#8
  | .cop => 0x20#8
  | .ilop => 0x10#8
  | .ilad => 0x08#8
  | .lvi => 0x02#8

/-- The LVI forces its reset: VDD is low, the module and its reset are on, in STOP only with LVISTOP (R318, R369). -/
def State.lviForces (s : State) : Bool :=
  s.pins.vddLow && s.sim.lviPowered && s.sim.lviResets && (decide (s.run ≠ .stopped) || s.sim.lviInStop)

/-- /RST forces a reset: PTA3 is at logic 0 while it works as /RST (R314, log 53). -/
def State.rstForces (s : State) : Bool := s.sim.rstEn && !s.pins.pta.getLsbD 3

/-- The resets that are due at this boundary, a bit per cause in SRSR's layout (R312): those requested before, and those that
the levels of VDD and /RST force now. -/
def State.resetPending (s : State) : Byte :=
  (s.sim.resetReq ||| (if s.lviForces then ResetCause.lvi.bit else 0x00#8)) |||
    (if s.rstForces then ResetCause.pin.bit else 0x00#8)

/-- INT1: bits 7..2 are IF6 to IF1 (R39). -/
def State.int1 (s : State) : Byte :=
  (((((0#1 ++ BitVec.ofBool (s.requests .timOverflow)) ++ BitVec.ofBool (s.requests .tim1)) ++
    BitVec.ofBool (s.requests .tim0)) ++ 0#1) ++ BitVec.ofBool (s.requests .irq)) ++ 0#2

/-- INT2: bits 7..0 are IF14 to IF7 (R39). -/
def State.int2 (s : State) : Byte := BitVec.ofBool (s.requests .keyboard) ++ 0#7

/-- INT3: bit 0 is IF15 (R39). -/
def State.int3 (s : State) : Byte := 0#7 ++ BitVec.ofBool (s.requests .adc)

end Sys2Proof.Machine
end

