-- ==== Sys2Proof/Machine/Agents.lean ====
section
/-! DEFINITION. What the device agents of spec/00_scope.md R11 do of themselves: pins, supply, clocks (SIM counter, COP,
timer), ADC, module registers (spec/60_exceptions.md R361 to R369). They act at instruction boundaries (R326) and, inside an
instruction, before an access to a device register (spec/20_memory.md R66, R69). None of them writes memory or a CPU
register (R64). -/

namespace Sys2Proof.Machine

/-- A reset is requested by the environment (R312). -/
def State.requestReset (s : State) (cause : ResetCause) : State :=
  s.setSim { s.sim with resetReq := s.sim.resetReq ||| cause.bit }

/-- The resets that the levels of VDD and /RST force at this moment are requested, so that one is taken even if the level is
gone at the next boundary (R314, R318); at the end of a hold by the LVI too, so that nothing a device did in it is left. -/
def State.requestForced (s : State) : State := s.setSim { s.sim with resetReq := s.resetPending }

/-- A capture channel at an edge of its pin (R363). -/
def TimChannel.atEdge (ch : TimChannel) (before after : Bool) (count : Word) : TimChannel :=
  match ch.mode with
  | .off => ch
  | .compare _ => ch
  | .capture rising falling =>
    if (rising && !before && after) || (falling && before && !after) then { ch with value := count, flag := true } else ch

/-- The pins take new levels: a falling edge at /IRQ latches a request while IRQEN is set (R34, R366); the keyboard latches
one when one of its pins goes to 0 after all were 1 (R367); the timer captures at its pins (R363; not in STOP, R296). -/
def State.pinsChange (s : State) (pta : BitVec 6) (ptb : Byte) (irqVtst : Bool) : State :=
  let old := s.pins
  let fall := s.sim.irqEn && s.irqPinHigh && !(irqVtst || pta.getLsbD 2)
  let key := !s.keyLow old.pta && s.keyLow pta
  let t := s.mods.tim
  let tim := if s.run = .stopped then t else
    { t with ch0 := if s.pinFunction 0 = .timer then t.ch0.atEdge (old.pta.getLsbD 0) (pta.getLsbD 0) t.counter else t.ch0
             ch1 := if s.pinFunction 1 = .timer then t.ch1.atEdge (old.pta.getLsbD 1) (pta.getLsbD 1) t.counter else t.ch1 }
  (s.setPins { old with pta := pta, ptb := ptb, irqVtst := irqVtst }).setMods
    { s.mods with irq := { s.mods.irq with latch := s.mods.irq.latch || fall }
                  kbi := { s.mods.kbi with flag := s.mods.kbi.flag || key }
                  tim := tim }

/-- Bit `n` of the port A levels made `b`. -/
def setPin (pta : BitVec 6) (n : Nat) (b : Bool) : BitVec 6 :=
  if b then pta ||| (1#6 <<< n) else pta &&& ~~~(1#6 <<< n)

/-- The level a compare leaves at its pin (R363). -/
def CompareAction.drive (act : CompareAction) (old : Bool) : Bool :=
  match act with
  | .none => old
  | .toggle => !old
  | .clear => false
  | .set => true

/-- Whether a channel compares equal to the count, with `value` in control. -/
def TimChannel.meets (ch : TimChannel) (value count : Word) : Bool :=
  match ch.mode with
  | .compare _ => value == count
  | .off => false
  | .capture _ _ => false

/-- A channel's pin at one count, if it owns one: on an overflow a compare channel with toggle-on-overflow toggles it, then a
compare that is met acts on it (R363; that order is DESIGN CHOICE, log 50). -/
def TimChannel.pinLevel (ch : TimChannel) (wrapped met old : Bool) : Bool :=
  match ch.mode with
  | .compare act =>
    let level := if wrapped && ch.toggleOnOverflow then !old else old
    if met then act.drive level else level
  | .off => old
  | .capture _ _ => old

/-- One count of the timer (R363): at the modulo the counter restarts and TOF is set; a channel whose value it reaches sets
its flag and acts on its pin. A counter already above the modulo counts on to $FFFF and then to $0000 with no TOF (DESIGN
CHOICE, log 50). Linked channels by log 49. `own0`, `own1`: the pins TCH0, TCH1 belong to the timer (R365). -/
def timTick (own0 own1 : Bool) (tp : TimModule × BitVec 6) : TimModule × BitVec 6 :=
  let t := tp.1
  let wrapped := t.counter == t.modulo
  let count := if wrapped then 0x0000#16 else t.counter + 1
  let use1 := if wrapped then t.nextCh1 else t.useCh1
  let met0 := t.ch0.meets (if t.buffered && use1 then t.ch1.value else t.ch0.value) count
  let met1 := !t.buffered && t.ch1.meets t.ch1.value count
  let pin0 := if own0 then setPin tp.2 0 (t.ch0.pinLevel wrapped met0 (tp.2.getLsbD 0)) else tp.2
  let pin1 := if own1 then setPin pin0 1 (t.ch1.pinLevel wrapped met1 (pin0.getLsbD 1)) else pin0
  ({ t with counter := count, overflow := t.overflow || wrapped, useCh1 := use1
            ch0 := { t.ch0 with flag := t.ch0.flag || met0 }
            ch1 := { t.ch1 with flag := t.ch1.flag || met1 } }, pin1)

/-- `n` counts of the timer. -/
def timTicks (own0 own1 : Bool) : Nat → TimModule × BitVec 6 → TimModule × BitVec 6
  | 0, tp => tp
  | n + 1, tp => timTicks own0 own1 n (timTick own0 own1 tp)

/-- The timer and its pins after `n` BUSCLKX4 cycles: it counts every 4 * 2^PS of them, PS at most 6 (R362, R363). -/
def State.timerRuns (s : State) (n : Nat) : State :=
  let t := s.mods.tim
  if t.stop || t.prescale == 7#3 then s else
    let period := 4 * 2 ^ t.prescale.toNat
    let tp := timTicks (decide (s.pinFunction 0 = .timer)) (decide (s.pinFunction 1 = .timer))
      ((t.subCount + n) / period) ({ t with subCount := (t.subCount + n) % period }, s.pins.pta)
    (s.setMods { s.mods with tim := tp.1 }).setPins { s.pins with pta := tp.2 }

/-- Whether the COP counts: not while COPD is 1, not in monitor mode with VTST on /IRQ, not in a break (R347, R368). -/
def State.copRuns (s : State) : Bool :=
  !s.sim.copDisabled && decide (s.brk.phase ≠ .serving) && !(decide (s.mode = .monitor) && s.pins.irqVtst)

/-- The SIM counter and the COP behind it after `n` BUSCLKX4 cycles; a reset is requested when the COP has counted its whole
timeout since the last service or reset (R368, D19, log 17). -/
def State.simCounts (s : State) (n : Nat) : State :=
  let chain := s.sim.cop.toNat * 4096 + s.sim.counter.toNat + n
  if s.copRuns then
    let moved := s.setSim { s.sim with counter := BitVec.ofNat 12 chain, cop := BitVec.ofNat 6 (chain / 4096),
                                       copTime := s.sim.copTime + n }
    if s.sim.copTimeout ≤ s.sim.copTime + n then moved.requestReset .cop else moved
  else s.setSim { s.sim with counter := BitVec.ofNat 12 chain }

/-- `n` BUSCLKX4 cycles pass; the clock is off in STOP (R296), and nothing counts while the LVI holds the chip in reset
(R318, R369). -/
def State.clocksPass (s : State) (n : Nat) : State :=
  if s.run = .stopped ∨ s.lviForces = true then s else (s.simCounts n).timerRuns n

/-- The module registers the devices leave when they make them `m`: in STOP the timer and the ADC do not advance (R296), and
with the external clock OSC2EN is cleared (R362). -/
def State.allowedModules (s : State) (m : Modules) : Modules :=
  let m := if s.run = .stopped then { m with tim := s.mods.tim, adc := s.mods.adc } else m
  if m.osc.source = .externalClock then { m with ports := { m.ports with osc2en := false } } else m

/-- The voltage at an analog input. -/
def Pins.analogLevel (p : Pins) (k : BitVec 2) : Byte :=
  if k = 0#2 then p.ad0 else if k = 1#2 then p.ad1 else if k = 2#2 then p.ad2 else p.ad3

/-- Whether the ADC works: the chip has one and its clock runs (R296, R364). -/
def State.adcWorks (s : State) : Bool := hasAdc s.cfg.variant && decide (s.run ≠ .stopped)

/-- The voltage of the selected channel is sampled into ADCVIN (R364); so it is if the oscillator owns the pin of AD2 or AD3
(DESIGN CHOICE, log 23: R365 says who ranks above, not what is then sampled). -/
def State.adcSamples (s : State) : State :=
  match s.mods.adc.channel with
  | some k =>
    if s.adcWorks then s.setMods { s.mods with adc := { s.mods.adc with vin := s.pins.analogLevel k } } else s
  | none => s

/-- A conversion completes: the sample goes to the ADC data register and COCO is set; a continuous conversion goes on, a
single one is over (R364). -/
def State.adcCompletes (s : State) : State :=
  if s.adcWorks && s.mods.adc.converting then
    s.setMods { s.mods with adc := { s.mods.adc with data := s.mods.adc.vin, flag := true,
                                                     converting := s.mods.adc.continuous } }
  else s

/-- One event of a device agent. A host command is none: the monitor's own instructions serve it (R358). -/
def State.agentActs (s : State) (e : EnvEvent) : State :=
  match e with
  | .powerOn => s.requestReset .por
  | .resetPin => if s.sim.rstEn then s.requestReset .pin else s
  | .forceBreak => s.setBrk { s.brk with request := true }
  | .pins pta ptb vtst => (s.pinsChange pta ptb vtst).requestForced
  | .analog a0 a1 a2 a3 => s.setPins { s.pins with ad0 := a0, ad1 := a1, ad2 := a2, ad3 := a3 }
  | .supply low => (s.requestForced.setPins { s.pins with vddLow := low }).requestForced
  | .clocks n => s.clocksPass n
  | .modules m => s.setMods (s.allowedModules m)
  | .adcSample => s.adcSamples
  | .adcDone => s.adcCompletes
  | .autoWake =>
    if s.mods.kbi.wakeEnable then s.setMods { s.mods with kbi := { s.mods.kbi with flag := true } } else s
  | .host _ => s

/-- The devices act before an access to a device register: the next batch of `midInputs` lands (R64, R66, R69, log 51). -/
def State.agentsAct (s : State) : State :=
  match s.midInputs with
  | [] => s
  | batch :: later => (batch.foldl State.agentActs s).setMidInputs later

end Sys2Proof.Machine
end

