-- ==== Sys2Proof/Machine/Devices.lean ====
section
/-! DEFINITION. Reads and writes of the I/O and system registers (spec/20_memory.md R58, spec/10_state.md R37 to R46,
spec/92_eei_decisions.md D17). A register whose address or layout no rule gives reads as a free value, and keeps the byte
written to it in a cell that no rule reads. -/

namespace Sys2Proof.Machine

/-- The bits of `known` in `v`, the others from the next free value (U10). -/
def State.readPart (s : State) (known v : Byte) : Byte × State :=
  ((v &&& known) ||| (Config.freeByte s.free &&& ~~~known), s.drew 1)

/-- The level at the pins of port A (R365): an output pin that no other function owns has the level of its data bit; PTA2 is
input only. -/
def State.portA (s : State) : Byte :=
  let out := s.mods.ports.ddra &&& 0x3B#8 &&& (s.pinsAs .port).setWidth 8
  (s.mods.ports.ptaData &&& out) ||| (s.pins.pta.setWidth 8 &&& ~~~out)

/-- The level at the pins of port B (R365). -/
def State.portB (s : State) : Byte :=
  (s.mods.ports.ptbData &&& s.mods.ports.ddrb) ||| (s.pins.ptb &&& ~~~s.mods.ports.ddrb)

/-- A read of a device register: the byte it presents, and the state after the read. SRSR is cleared by it (R58); the ports
present their pins (R290, R365); LVIOUT is bit 7 of LVISR (R45). -/
def State.deviceRead (s : State) (a : Nat) : Byte × State :=
  if a = 0x0000 then s.readPart 0x3F#8 s.portA
  else if a = 0x0001 then (if hasPtb s.cfg.variant then (s.portB, s) else s.readPart 0x00#8 0x00#8)
  else if a = 0x0004 then s.readPart 0x3B#8 s.mods.ports.ddra
  else if a = 0x0005 then (if hasPtb s.cfg.variant then (s.mods.ports.ddrb, s) else s.readPart 0x00#8 0x00#8)
  else if a = 0x001F then (s.sim.config1, s)
  else if a = 0xFE01 then (s.sim.srsr, s.setSim { s.sim with srsr := 0x00#8 })
  else if a = 0xFE04 then (s.int1, s)
  else if a = 0xFE05 then (s.int2, s)
  else if a = 0xFE06 then (s.int3, s)
  else if a = 0xFE09 then (hiByte s.brk.addr, s)
  else if a = 0xFE0A then (loByte s.brk.addr, s)
  else if a = 0xFE0C then
    s.readPart (if s.sim.lviPowered then 0x80#8 else 0x00#8) (if s.pins.vddLow then 0x80#8 else 0x00#8)
  else s.readPart 0x00#8 0x00#8

/-- The byte a register without a field of its own keeps. -/
def State.latchCell (s : State) (a : Nat) (v : Byte) : State := s.setMem (s.mem.write a v)

/-- What a write to an I/O address that no rule gives a register may do: set the acknowledge bit of ISCR, which clears the
/IRQ latch (R58, R329, R366), or the counter reset bit of TSC, which clears the counter and the part of a count that has
passed in the prescaler (R363; the prescaler is PRESUMED, log 10). -/
def State.moduleWrite (s : State) (a : Nat) (v : Byte) : State :=
  s.setMods
    { s.mods with
      irq := { s.mods.irq with latch := s.mods.irq.latch && !Config.irqAckOf a v }
      tim := if Config.timResetOf a v then { s.mods.tim with counter := 0x0000#16, subCount := 0 } else s.mods.tim }

/-- A write of a device register. SRSR, INT1 to INT3 and LVISR are read-only (R38, R39, R45); CONFIG1 and CONFIG2 take
the first write after a reset (R40); a write of 1 to BRKA requests a break (R44). -/
def State.deviceWrite (s : State) (a : Nat) (v : Byte) : State :=
  if a = 0x0000 then s.setMods { s.mods with ports := { s.mods.ports with ptaData := v } }
  else if a = 0x0001 then
    (if hasPtb s.cfg.variant then s.setMods { s.mods with ports := { s.mods.ports with ptbData := v } }
     else s.latchCell a v)
  else if a = 0x0004 then s.setMods { s.mods with ports := { s.mods.ports with ddra := v } }
  else if a = 0x0005 then
    (if hasPtb s.cfg.variant then s.setMods { s.mods with ports := { s.mods.ports with ddrb := v } }
     else s.latchCell a v)
  else if a = 0x001E then
    (if s.sim.config2Written then s else s.setSim { s.sim with config2 := v, config2Written := true })
  else if a = 0x001F then
    (if s.sim.config1Written then s else s.setSim { s.sim with config1 := v, config1Written := true })
  else if a = 0xFE01 then s
  else if a = 0xFE04 then s
  else if a = 0xFE05 then s
  else if a = 0xFE06 then s
  else if a = 0xFE08 then (s.setSim { s.sim with flashBusy := Config.flcrActiveOf v }).latchCell a v
  else if a = 0xFE09 then s.setBrk { s.brk with addr := joinBytes v (loByte s.brk.addr) }
  else if a = 0xFE0A then s.setBrk { s.brk with addr := joinBytes (hiByte s.brk.addr) v }
  else if a = 0xFE0B then
    (s.setBrk { s.brk with enable := Config.brkeOf v, request := s.brk.request || Config.brkaOf v }).latchCell a v
  else if a = 0xFE0C then s
  else if a < 0x0040 then (s.moduleWrite a v).latchCell a v
  else s.latchCell a v

end Sys2Proof.Machine
end

