-- ==== Sys2Proof/Machine/Flags.lean ====
section
/-! DEFINITION. CCR as a byte (spec/10_state.md R25, R32) and every flag computation of the spec: the helpers `NZ8` and
`NZ16` of spec/40_data_movement.md R120, `add8` and `sub8` of spec/41_arithmetic.md R160, and the one-operand operations of
files 41 and 42, each as a function from the operand and the old flags to the result and the new flags. -/

namespace Sys2Proof.Machine

/-- `V:1:1:Hf:I:N:Z:C` (R25): bits 6 and 5 always read 1 (R32). -/
def Flags.toByte (f : Flags) : Byte :=
  (((((((BitVec.ofBool f.v ++ 1#1) ++ 1#1) ++ BitVec.ofBool f.h) ++ BitVec.ofBool f.i) ++ BitVec.ofBool f.n) ++
    BitVec.ofBool f.z) ++ BitVec.ofBool f.c)

/-- The flags a byte written to CCR sets; its bits 6 and 5 are ignored (R32, R141). -/
def Flags.ofByte (b : Byte) : Flags :=
  { v := b.getLsbD 7, h := b.getLsbD 4, i := b.getLsbD 3, n := b.getLsbD 2, z := b.getLsbD 1, c := b.getLsbD 0 }

/-- `NZ8(r)`: N from bit 7, Z if the byte is $00 (R120). -/
def Flags.nz8 (f : Flags) (r : Byte) : Flags := { f with n := r.getLsbD 7, z := r == 0x00#8 }

/-- `NZ16(r)`: N from bit 15, Z if the word is $0000 (R120). -/
def Flags.nz16 (f : Flags) (r : Word) : Flags := { f with n := r.getLsbD 15, z := r == 0x0000#16 }

/-- `V <- 0; NZ8(r)`: loads, stores, logic, TST (R121, R200). -/
def Flags.moved8 (f : Flags) (r : Byte) : Flags := { f.nz8 r with v := false }

/-- `V <- 0; NZ16(r)`: LDHX, STHX (R122, R125). -/
def Flags.moved16 (f : Flags) (r : Word) : Flags := { f.nz16 r with v := false }

/-- What `add8` answers (R160): the sum, the carry out of bit 7, the carry out of bit 3, the signed overflow. -/
structure Sum8 where
  r : Byte
  c : Bool
  h : Bool
  v : Bool
deriving DecidableEq, Repr

/-- Two's-complement overflow of an addition, from the sign bits (R26). -/
def addOverflow (a7 m7 r7 : Bool) : Bool := (a7 && m7 && !r7) || (!a7 && !m7 && r7)

/-- Two's-complement overflow of a subtraction, from the sign bits (R26). -/
def subOverflow (a7 m7 r7 : Bool) : Bool := (a7 && !m7 && !r7) || (!a7 && m7 && r7)

/-- `add8(a, m, cin)` of R160. -/
def add8 (a m : Byte) (cin : Bool) : Sum8 :=
  let s := a.toNat + m.toNat + cin.toNat
  let r := BitVec.ofNat 8 s
  { r := r
    c := decide (255 < s)
    h := decide (15 < a.toNat % 16 + m.toNat % 16 + cin.toNat)
    v := addOverflow (a.getLsbD 7) (m.getLsbD 7) (r.getLsbD 7) }

/-- The flags after ADD and ADC: V, Hf, N, Z, C (R161, R162). -/
def Flags.added (f : Flags) (s : Sum8) : Flags := { f.nz8 s.r with v := s.v, h := s.h, c := s.c }

/-- What `sub8` answers (R160): the difference, the borrow, the signed overflow. -/
structure Diff8 where
  r : Byte
  c : Bool
  v : Bool
deriving DecidableEq, Repr

/-- `sub8(a, m, bin)` of R160: the borrow is set exactly when the integer difference is negative. -/
def sub8 (a m : Byte) (bin : Bool) : Diff8 :=
  let r := a - m - BitVec.ofNat 8 bin.toNat
  { r := r
    c := decide (a.toNat < m.toNat + bin.toNat)
    v := subOverflow (a.getLsbD 7) (m.getLsbD 7) (r.getLsbD 7) }

/-- The flags after SUB, SBC, CMP and CPX: V, N, Z, C; Hf is kept (R171, R173, R184, R185). -/
def Flags.subtracted (f : Flags) (d : Diff8) : Flags := { f.nz8 d.r with v := d.v, c := d.c }

/-- The flags after CPHX: a full 16-bit subtraction (R172). -/
def Flags.compared16 (f : Flags) (hx m : Word) : Flags :=
  let r := hx - m
  { f.nz16 r with
    v := subOverflow (hx.getLsbD 15) (m.getLsbD 15) (r.getLsbD 15)
    c := decide (hx.toNat < m.toNat) }

/-- NEG: `r <- $00 - m`, V if r is $80, C unless r is $00 (R213). -/
def negOp (m : Byte) (f : Flags) : Byte × Flags :=
  let r := 0x00#8 - m
  (r, { f.nz8 r with v := r == 0x80#8, c := r != 0x00#8 })

/-- COM: the complement; V cleared, C set (R203). -/
def comOp (m : Byte) (f : Flags) : Byte × Flags :=
  let r := ~~~m
  (r, { f.moved8 r with c := true })

/-- The flags of a left shift: C from the old bit 7, V if the sign changed (R165, R217). -/
def Flags.shiftedLeft (f : Flags) (m r : Byte) : Flags :=
  { f.nz8 r with c := m.getLsbD 7, v := xor (r.getLsbD 7) (m.getLsbD 7) }

/-- The flags of a right shift: C from the old bit 0, V = N xor C (R168, R210, R220). -/
def Flags.shiftedRight (f : Flags) (m r : Byte) : Flags :=
  { f.nz8 r with c := m.getLsbD 0, v := xor (r.getLsbD 7) (m.getLsbD 0) }

/-- LSL, the same instruction as ASL: bit 7 to C, 0 into bit 0 (R165, R207). -/
def lslOp (m : Byte) (f : Flags) : Byte × Flags :=
  let r := m <<< 1
  (r, f.shiftedLeft m r)

/-- ROL: the old C into bit 0, bit 7 to C (R217). -/
def rolOp (m : Byte) (f : Flags) : Byte × Flags :=
  let r : Byte := m.extractLsb' 0 7 ++ BitVec.ofBool f.c
  (r, f.shiftedLeft m r)

/-- LSR: 0 into bit 7, bit 0 to C (R210). -/
def lsrOp (m : Byte) (f : Flags) : Byte × Flags :=
  let r := m >>> 1
  (r, f.shiftedRight m r)

/-- ASR: bit 7 kept and copied down, bit 0 to C (R168). -/
def asrOp (m : Byte) (f : Flags) : Byte × Flags :=
  let r : Byte := BitVec.ofBool (m.getLsbD 7) ++ m.extractLsb' 1 7
  (r, f.shiftedRight m r)

/-- ROR: the old C into bit 7, bit 0 to C (R220). -/
def rorOp (m : Byte) (f : Flags) : Byte × Flags :=
  let r : Byte := BitVec.ofBool f.c ++ m.extractLsb' 1 7
  (r, f.shiftedRight m r)

/-- DEC: V for $80 to $7F only; C is not written (R175). -/
def decOp (m : Byte) (f : Flags) : Byte × Flags :=
  let r := m - 1
  (r, { f.nz8 r with v := m.getLsbD 7 && !r.getLsbD 7 })

/-- INC: V for $7F to $80 only; C is not written (R179). -/
def incOp (m : Byte) (f : Flags) : Byte × Flags :=
  let r := m + 1
  (r, { f.nz8 r with v := !m.getLsbD 7 && r.getLsbD 7 })

/-- The flags after a CLR: V and N cleared, Z set (R136). -/
def Flags.cleared (f : Flags) : Flags := { f with v := false, n := false, z := true }

/-- The nine-row table of R174: from C, the high nibble, Hf and the low nibble before DAA to the correction added to A and C
after. None outside the table. -/
def daaTable (c : Bool) (hi : Nat) (h : Bool) (lo : Nat) : Option (Byte × Bool) :=
  if !c && decide (hi ≤ 9) && !h && decide (lo ≤ 9) then some (0x00#8, false)
  else if !c && decide (hi ≤ 8) && !h && decide (10 ≤ lo) then some (0x06#8, false)
  else if !c && decide (hi ≤ 9) && h && decide (lo ≤ 3) then some (0x06#8, false)
  else if !c && decide (10 ≤ hi) && !h && decide (lo ≤ 9) then some (0x60#8, true)
  else if !c && decide (9 ≤ hi) && !h && decide (10 ≤ lo) then some (0x66#8, true)
  else if !c && decide (10 ≤ hi) && h && decide (lo ≤ 3) then some (0x66#8, true)
  else if c && decide (hi ≤ 2) && !h && decide (lo ≤ 9) then some (0x60#8, true)
  else if c && decide (hi ≤ 2) && !h && decide (10 ≤ lo) then some (0x66#8, true)
  else if c && decide (hi ≤ 3) && h && decide (lo ≤ 3) then some (0x66#8, true)
  else none

/-- One free bit: bit 0 of the n-th free value (`any1` of R8). -/
def freeBit (n : Nat) : Bool := (Config.freeByte n).getLsbD 0

end Sys2Proof.Machine
end

