-- ==== Sys2Proof/Machine/Ops.lean ====
section
/-! DEFINITION. The shared operations: one bus access (spec/20_memory.md R56 to R60, R70), push and pull (spec/10_state.md
R33), the branch (spec/43_jumps_branches.md R230), taking an exception and returning from one (spec/60_exceptions.md R330;
spec/44_subroutines.md R282), the reset sequence (spec/70_reset_and_hazards.md R370).

An operation that can stop takes what is to be done afterwards as an argument, and answers what that answers. -/

namespace Sys2Proof.Machine

/-- What a read of an accessible address answers: the byte, and the state after the read (R58, R60, R61). Before a device
register is accessed the devices may act (R66, R69). -/
def State.busRead (s : State) (a : Word) : Byte × State :=
  match region s.cfg a.toNat with
  | .device => s.agentsAct.deviceRead a.toNat
  | .ram => (s.mem.read a.toNat, s)
  | .rom => (s.mem.read a.toNat, s)
  | .flash => (s.mem.read a.toNat, s)
  | .reserved => (s.mem.read a.toNat, s)
  | .unimplemented => (s.mem.read a.toNat, s)

/-- Where an access outside the modelled addresses stops (R59, D10, U3, U4). -/
def State.noAccess (s : State) (a : Word) : Out :=
  match region s.cfg a.toNat with
  | .unimplemented => .fault (.unimplementedAccess a)
  | .reserved => .refused (.reservedAccess a)
  | .device => .refused (.flashProgramming a)
  | .ram => .refused (.flashProgramming a)
  | .rom => .refused (.flashProgramming a)
  | .flash => .refused (.flashProgramming a)

/-- Whether `a` can be read (R59). -/
def State.canRead (s : State) (a : Word) : Bool := accessible s.cfg a.toNat

/-- `MemRead(a, 1)`, then `k` (R8, R56, R59). -/
def State.withRead (s : State) (a : Word) (k : Byte → State → Out) : Out :=
  if s.canRead a then k (s.busRead a).1 (s.busRead a).2 else s.noAccess a

/-- `MemRead(a, 2)`, then `k`: high byte at `a`, low byte at `a + 1` (R8, R54, R57, R63). -/
def State.withRead16 (s : State) (a : Word) (k : Word → State → Out) : Out :=
  s.withRead a fun hi s => s.withRead (a + 1) fun lo s => k (joinBytes hi lo) s

/-- COPCTL: a write clears the COP counter and stages 12 to 5 of the SIM counter, whose stage 1 is its bit 0 (R42, R70; log
17), and the COP's time starts anew (R368). -/
def State.serviceCop (s : State) : State :=
  s.setSim { s.sim with cop := 0#6, counter := s.sim.counter &&& 0x00F#12, copTime := 0 }

/-- What a write to an accessible address does (R58, R60, R61, R70, D11): RAM takes the byte, ROM and FLASH do not. -/
def State.busWrite (s : State) (a : Word) (v : Byte) : State :=
  match region s.cfg a.toNat with
  | .device => s.agentsAct.deviceWrite a.toNat v
  | .ram =>
    ((s.setMem (s.mem.write a.toNat v)).setJustStored
      (if s.mem.read a.toNat = v then s.justStored else a :: s.justStored)).setWritten (a :: s.written)
  | .flash => if a = 0xFFFF#16 then s.serviceCop else s
  | .rom => s
  | .reserved => s
  | .unimplemented => s

/-- Whether `a` can be written: it exists (R59), and it is no FLASH or ROM address while FLCR's program or erase bits are
set (D11; a write to COPCTL stores nothing in FLASH). -/
def State.canWrite (s : State) (a : Word) : Bool :=
  match region s.cfg a.toNat with
  | .device => true
  | .ram => true
  | .rom => !s.sim.flashBusy
  | .flash => !s.sim.flashBusy || decide (a = 0xFFFF#16)
  | .reserved => false
  | .unimplemented => false

/-- `MemWrite(a, 1, v)`, then `k` (R8, R56, R59, R60). -/
def State.withWrite (s : State) (a : Word) (v : Byte) (k : State → Out) : Out :=
  if s.canWrite a then k (s.busWrite a v) else s.noAccess a

/-- `MemWrite(a, 2, v)`, then `k`: the high byte to `a`, then the low byte to `a + 1` (R8, R57). -/
def State.withWrite16 (s : State) (a : Word) (v : Word) (k : State → Out) : Out :=
  s.withWrite a (hiByte v) fun s => s.withWrite (a + 1) (loByte v) k

/-- `Push(v)`, then `k`: store first, then decrement SP (R8, R33). -/
def State.withPush (s : State) (v : Byte) (k : State → Out) : Out :=
  s.withWrite s.sp v fun s => k (s.setSp (s.sp - 1))

/-- `Pull()`, then `k`: increment SP first, then load (R8, R33). -/
def State.withPull (s : State) (k : Byte → State → Out) : Out :=
  (s.setSp (s.sp + 1)).withRead (s.sp + 1) k

/-- Pushes a return address: low byte, then high byte (R54, R57, R280). -/
def State.withPushPc (s : State) (k : State → Out) : Out :=
  s.withPush (loByte s.pc) fun s => s.withPush (hiByte s.pc) k

/-- Pulls a return address: high byte, then low byte (R57, R283). -/
def State.withPullPc (s : State) (k : State → Out) : Out :=
  s.withPull fun hi s => s.withPull fun lo s => k (s.setPc (joinBytes hi lo))

/-- `Branch(cond, rr)`: PC is already the address of the next instruction (R84, R230). -/
def State.branch (s : State) (cond : Bool) (rr : Byte) : State :=
  s.setPc (if cond then s.pc + sext16 rr else s.pc)

/-- Taking an exception, then `k` (R330): PCL, PCH, X, A and CCR are pushed, I is set after that, PC is read from the
vector, and the CPU runs (R350). SWI, the interrupts and the break enter through this one operation. -/
def State.withException (s : State) (vector : Word) (k : State → Out) : Out :=
  s.withPushPc fun s =>
  s.withPush s.x fun s =>
  s.withPush s.a fun s =>
  s.withPush s.ccr.toByte fun s =>
  (s.setCcr { s.ccr with i := true }).withRead16 vector fun v s =>
  k (((s.setPc v).setRun .running).setIrqHold false)

/-- The SWI and break vector of a mode (R36, R295, R357). -/
def Mode.swiVector : Mode → Word
  | .user => 0xFFFC#16
  | .monitor => 0xFEFC#16

/-- The reset vector of a mode (R36, R357). -/
def Mode.resetVector : Mode → Word
  | .user => 0xFFFE#16
  | .monitor => 0xFEFE#16

/-- Returning from an exception, then `k` (R282, R347): CCR, A, X, PCH, PCL are pulled; a break routine ends. -/
def State.withReturn (s : State) (k : State → Out) : Out :=
  s.withPull fun c s =>
  (s.setCcr (Flags.ofByte c)).withPull fun a s =>
  (s.setA a).withPull fun x s =>
  (s.setX x).withPullPc fun s =>
  k (s.setBrk { s.brk with phase := if s.brk.phase = .serving then .returned else s.brk.phase })

/-- Whether the two bytes of the user reset vector are erased (R360). -/
def Memory.vectorErased (m : Memory) : Bool := (m.read 0xFFFE == 0xFF#8) && (m.read 0xFFFF == 0xFF#8)

/-- The levels of the first row of R360's table: VTST on /IRQ, VDD on /RST, PTA1 = 1, PTA4 = 0. -/
def State.monitorLevels (s : State) : Bool :=
  s.pins.irqVtst && s.pins.pta.getLsbD 3 && s.pins.pta.getLsbD 1 && !s.pins.pta.getLsbD 4

/-- Forced monitor mode: an erased user reset vector (R360, second and third row; R373), but for the levels of the first row. -/
def State.monitorForced (s : State) : Bool := !s.monitorLevels && s.mem.vectorErased

/-- The mode entered at the exit from a reset (R360, R373). Pin levels with VTST that the table does not list, with a programmed
vector: open. -/
def State.entryMode (s : State) : Mode :=
  if s.monitorLevels || s.monitorForced || (s.pins.irqVtst && Config.monitorOutsideTable s.free) then .monitor else .user

/-- The clock source at the exit from a reset: the internal oscillator (R47), but the external clock in the monitor rows of
R360 that name it: the first, and forced monitor mode with VDD on /IRQ. -/
def State.entrySource (s : State) : OscSource :=
  if s.monitorLevels || (s.monitorForced && !s.pins.irqVtst && s.irqPinHigh) then .externalClock else .internal

/-- The system integration module after a reset (R38, R47, R312, R370): SRSR gains the causes and, on a forced entry to monitor
mode, MODRST; a power-on leaves POR alone. The SIM counter is cleared but by an external reset; the security check stands
until a power-on (R359); the rest is as Sim.reset says, requested resets among it. So a reset that a device requests inside an
instruction which itself ends in Reset(ILOP) is dropped and not recorded (DESIGN CHOICE, log 51). -/
def State.simAfterReset (s : State) (causes : Byte) : Sim :=
  { Sim.reset with
    srsr := if causes.getLsbD 7 then 0x80#8 else s.sim.srsr ||| causes ||| (if s.monitorForced then 0x04#8 else 0x00#8)
    counter := if causes = ResetCause.pin.bit then s.sim.counter else 0#12
    rstForced := s.monitorLevels
    securityDone := !causes.getLsbD 7 && s.sim.securityDone
    monitorUnlocked := !causes.getLsbD 7 && s.sim.monitorUnlocked }

/-- Whether one of the causes is asynchronous to the program: power-on, /RST, COP, LVI (R312). Such a reset may have cut the
last instruction in half (R311, D28). -/
def asynchronous (causes : Byte) : Bool := causes &&& 0xE2#8 != 0x00#8

/-- The memory after a reset (R311, R373, D33): FLASH, ROM and RAM stay, but RAM is any value after a power-on, and after
another asynchronous reset the bytes that the instruction before it wrote are (D28, U23). -/
def State.memAfterReset (s : State) (causes : Byte) : Memory :=
  let kept := s.mem.dropDevices s.cfg
  if causes.getLsbD 7 then kept.freeRam (s.free + 7) 128
  else if asynchronous causes then kept.freeBytes s.cfg (s.free + 7) s.written
  else kept

/-- How many free values a reset draws: seven for registers and flags, one for each byte of RAM it leaves open. -/
def State.resetDraws (s : State) (causes : Byte) : Nat :=
  if causes.getLsbD 7 then 135 else if asynchronous causes then 7 + s.written.length else 7

/-- `ResetSequence(cause)` of R370, for the causes of one boundary, a bit each in SRSR's layout. A, X and five flags are
any value (R21, R22, R25, D1). -/
def State.resetSequence (s : State) (causes : Byte) : State :=
  let mem := s.memAfterReset causes
  let n := s.free
  let mode := s.entryMode
  { s with
    a := Config.freeByte n
    h := 0x00#8
    x := Config.freeByte (n + 1)
    sp := 0x00FF#16
    pc := joinBytes (mem.read mode.resetVector.toNat) (mem.read (mode.resetVector + 1).toNat)
    ccr := { v := freeBit (n + 2), h := freeBit (n + 3), i := true, n := freeBit (n + 4), z := freeBit (n + 5),
             c := freeBit (n + 6) }
    run := .running
    mode := mode
    irqHold := false
    mem := mem
    sim := s.simAfterReset causes
    brk := Break.reset
    link := { s.link with command := none, entries := [] }
    mods := { Modules.reset with osc := { Modules.reset.osc with source := s.entrySource } }
    free := n + s.resetDraws causes
    justStored := []
    written := [] }

/-- `raise Reset(cause)` (R8, R316, R317). -/
def State.raiseReset (s : State) (cause : ResetCause) : Out := .next (s.resetSequence cause.bit)

end Sys2Proof.Machine
end

