-- ==== Sys2Proof/Machine/Operands.lean ====
section
/-! DEFINITION. Operand forms (spec/30_encoding.md R86 to R94, spec/40_data_movement.md R120) and the shapes of instruction
over them. When a shape runs, every instruction byte has been fetched and PC is the address of the next instruction (R8,
D30). -/

namespace Sys2Proof.Machine

/-- The addressing modes that name one byte of memory (R88 to R94). -/
inductive AddrMode where
  | dir (dd : Byte)
  | ext (hhll : Word)
  | ix
  | ix1 (ff : Byte)
  | ix2 (eeff : Word)
  | sp1 (ff : Byte)
  | sp2 (eeff : Word)
deriving DecidableEq, Repr

/-- `EA(mode)` (R120): sums modulo 2^16 (R63), 8-bit fields zero-extended (R82). -/
def AddrMode.ea (m : AddrMode) (s : State) : Word :=
  match m with
  | .dir dd => zext16 dd
  | .ext hhll => hhll
  | .ix => s.hx
  | .ix1 ff => s.hx + zext16 ff
  | .ix2 eeff => s.hx + eeff
  | .sp1 ff => s.sp + zext16 ff
  | .sp2 eeff => s.sp + eeff

/-- The 8-bit operand of a register/memory instruction: immediate, or a byte of memory (R87 to R94). -/
inductive Operand where
  | imm (ii : Byte)
  | mem (m : AddrMode)
deriving DecidableEq, Repr

/-- `Opnd8(mode)`, then `k` (R120). -/
def State.withOperand (s : State) (o : Operand) (k : Byte → State → Out) : Out :=
  match o with
  | .imm ii => k ii s
  | .mem m => s.withRead (m.ea s) k

/-- The 16-bit operand of LDHX and CPHX: immediate, or two bytes at a direct address (R122, R172, C12). -/
inductive Operand16 where
  | imm (jjkk : Word)
  | dir (dd : Byte)
deriving DecidableEq, Repr

/-- The 16-bit operand, then `k`. -/
def State.withOperand16 (s : State) (o : Operand16) (k : Word → State → Out) : Out :=
  match o with
  | .imm jjkk => k jjkk s
  | .dir dd => s.withRead16 (zext16 dd) k

/-- LDA (R121). -/
def loadA (o : Operand) (s : State) : Out :=
  s.withOperand o fun m s => .next ((s.setA m).setCcr (s.ccr.moved8 m))

/-- LDX (R123). -/
def loadX (o : Operand) (s : State) : Out :=
  s.withOperand o fun m s => .next ((s.setX m).setCcr (s.ccr.moved8 m))

/-- LDHX (R122). -/
def loadHX (o : Operand16) (s : State) : Out :=
  s.withOperand16 o fun v s => .next ((s.setHX v).setCcr (s.ccr.moved16 v))

/-- STA and STX: the byte `v` of a register is stored (R124, R126). -/
def storeReg (m : AddrMode) (v : Byte) (s : State) : Out :=
  s.withWrite (m.ea s) v fun s => .next (s.setCcr (s.ccr.moved8 v))

/-- STHX (R125). -/
def storeHX (dd : Byte) (s : State) : Out :=
  let v := s.hx
  s.withWrite16 (zext16 dd) v fun s => .next (s.setCcr (s.ccr.moved16 v))

/-- An instruction that takes A and an operand and writes A and flags: ADC, ADD, AND, EOR, ORA, SBC, SUB. `f` gives result
and flags from A, the operand and the old flags. -/
def accumulate (f : Byte → Byte → Flags → Byte × Flags) (o : Operand) (s : State) : Out :=
  s.withOperand o fun m s => .next ((s.setA (f s.a m s.ccr).1).setCcr (f s.a m s.ccr).2)

/-- An instruction that takes a register and an operand and writes flags alone: BIT, CMP, CPX. -/
def examine (reg : State → Byte) (f : Byte → Byte → Flags → Byte × Flags) (o : Operand) (s : State) : Out :=
  s.withOperand o fun m s => .next (s.setCcr (f (reg s) m s.ccr).2)

/-- ADC (R161). -/
def adcOp (a m : Byte) (f : Flags) : Byte × Flags := ((add8 a m f.c).r, f.added (add8 a m f.c))

/-- ADD (R162). -/
def addOp (a m : Byte) (f : Flags) : Byte × Flags := ((add8 a m false).r, f.added (add8 a m false))

/-- SBC (R184). -/
def sbcOp (a m : Byte) (f : Flags) : Byte × Flags := ((sub8 a m f.c).r, f.subtracted (sub8 a m f.c))

/-- SUB, CMP and CPX (R185, R171, R173). -/
def subOp (a m : Byte) (f : Flags) : Byte × Flags := ((sub8 a m false).r, f.subtracted (sub8 a m false))

/-- AND and BIT (R201, R202). -/
def andOp (a m : Byte) (f : Flags) : Byte × Flags := (a &&& m, f.moved8 (a &&& m))

/-- EOR (R206). -/
def eorOp (a m : Byte) (f : Flags) : Byte × Flags := (a ^^^ m, f.moved8 (a ^^^ m))

/-- ORA (R216). -/
def oraOp (a m : Byte) (f : Flags) : Byte × Flags := (a ||| m, f.moved8 (a ||| m))

/-- A read-modify-write of one byte of memory: one read, then one write of the same address (R57, R66, R200, D24). -/
def modifyMem (f : Byte → Flags → Byte × Flags) (m : AddrMode) (s : State) : Out :=
  s.withRead (m.ea s) fun v s1 =>
  s1.withWrite (m.ea s) (f v s1.ccr).1 fun s2 => .next (s2.setCcr (f v s1.ccr).2)

/-- The same operation on A. -/
def modifyA (f : Byte → Flags → Byte × Flags) (s : State) : Out :=
  .next ((s.setA (f s.a s.ccr).1).setCcr (f s.a s.ccr).2)

/-- The same operation on X; H is unchanged (R200). -/
def modifyX (f : Byte → Flags → Byte × Flags) (s : State) : Out :=
  .next ((s.setX (f s.x s.ccr).1).setCcr (f s.x s.ccr).2)

/-- TST of memory: one read, no write (R186). -/
def testMem (m : AddrMode) (s : State) : Out :=
  s.withRead (m.ea s) fun v s => .next (s.setCcr (s.ccr.moved8 v))

/-- CLR of memory: one write, no read (R136, D23). -/
def clearMem (m : AddrMode) (s : State) : Out :=
  s.withWrite (m.ea s) 0x00#8 fun s => .next (s.setCcr s.ccr.cleared)

/-- BSET and BCLR: the byte at a direct address is read, changed and written back; no flag (R290, R291). -/
def modifyBit (f : Byte → Byte) (dd : Byte) (s : State) : Out :=
  s.withRead (zext16 dd) fun v s => s.withWrite (zext16 dd) (f v) fun s => .next s

/-- BRSET and BRCLR: C takes the tested bit; the branch is taken if it equals `want` (R253, R255). -/
def branchOnBit (want : Bool) (n : BitVec 3) (dd rr : Byte) (s : State) : Out :=
  s.withRead (zext16 dd) fun v s =>
    .next ((s.setCcr { s.ccr with c := v.getLsbD n.toNat }).branch (v.getLsbD n.toNat == want) rr)

/-- A simple branch (R230). -/
def branchIf (cond : Bool) (rr : Byte) (s : State) : Out := .next (s.branch cond rr)

/-- CBEQ on memory without an increment (R256). -/
def compareBranch (m : AddrMode) (rr : Byte) (s : State) : Out :=
  s.withRead (m.ea s) fun v s => .next (s.branch (s.a == v) rr)

/-- CBEQ with post-increment of H:X, taken or not (R96, R256). -/
def compareBranchInc (m : AddrMode) (rr : Byte) (s : State) : Out :=
  s.withRead (m.ea s) fun v s => .next ((s.setHX (s.hx + 1)).branch (s.a == v) rr)

/-- DBNZ on memory (R259). -/
def decrementBranch (m : AddrMode) (rr : Byte) (s : State) : Out :=
  s.withRead (m.ea s) fun v s1 =>
  s1.withWrite (m.ea s) (v - 1) fun s2 => .next (s2.branch (v - 1 != 0x00#8) rr)

/-- The second half of a MOV: the byte is written, and V, N, Z are set from it (R129). -/
def moveTo (a : Word) (v : Byte) (s : State) : Out :=
  s.withWrite a v fun s => .next (s.setCcr (s.ccr.moved8 v))

/-- JMP: the effective address is the target, nothing is read (R231, C11). -/
def jump (m : AddrMode) (s : State) : Out := .next (s.setPc (m.ea s))

/-- JSR: the return address is pushed, low byte first; the target was computed before the pushes (R281). -/
def call (m : AddrMode) (s : State) : Out :=
  let target := m.ea s
  s.withPushPc fun s => .next (s.setPc target)

end Sys2Proof.Machine
end

