-- ==== Sys2Proof/Machine/Arithmetic.lean ====
section
/-! DEFINITION. The arithmetic instructions: spec/41_arithmetic.md R161 to R188. -/

namespace Sys2Proof.Machine

/-- CPHX: flags of the 16-bit difference, nothing else (R172). -/
def compareHX (o : Operand16) (s : State) : Out :=
  s.withOperand16 o fun m s => .next (s.setCcr (s.ccr.compared16 s.hx m))

/-- MUL: the unsigned product to X:A; Hf and C cleared (R182). -/
def State.multiplied (s : State) : State :=
  let p := s.x.setWidth 16 * s.a.setWidth 16
  ((s.setX (hiByte p)).setA (loByte p)).setCcr { s.ccr with h := false, c := false }

/-- DIV: H:A by X, quotient to A, remainder to H; on a zero divisor or a quotient above 255, C is set and A, H and Z are any
value (R178, D8, U12). -/
def State.divided (s : State) : State :=
  let n := (joinBytes s.h s.a).toNat
  let d := s.x.toNat
  if d ≠ 0 ∧ n / d ≤ 255 then
    ((s.setA (BitVec.ofNat 8 (n / d))).setH (BitVec.ofNat 8 (n % d))).setCcr
      { s.ccr with c := false, z := BitVec.ofNat 8 (n / d) == 0x00#8 }
  else
    (((s.setA (Config.freeByte s.free)).setH (Config.freeByte (s.free + 1))).setCcr
      { s.ccr with c := true, z := freeBit (s.free + 2) }).drew 3

/-- DAA: the correction of R174's table; V is any value; outside the table A, C, N and Z are any value (R174, D9, U13; log
31). -/
def State.decimalAdjusted (s : State) : State :=
  match daaTable s.ccr.c (s.a.toNat / 16) s.ccr.h (s.a.toNat % 16) with
  | some (corr, c) =>
    ((s.setA (s.a + corr)).setCcr { s.ccr.nz8 (s.a + corr) with v := freeBit s.free, c := c }).drew 1
  | none =>
    ((s.setA (Config.freeByte (s.free + 1))).setCcr
      { s.ccr with v := freeBit s.free, c := freeBit (s.free + 2), n := freeBit (s.free + 3),
                   z := freeBit (s.free + 4) }).drew 5

/-- ADC #opr8 (R161). -/
def execAdcImm (ii : Byte) (s : State) : Out := accumulate adcOp (.imm ii) s

/-- ADC opr8 (R161). -/
def execAdcDir (dd : Byte) (s : State) : Out := accumulate adcOp (.mem (.dir dd)) s

/-- ADC opr16 (R161). -/
def execAdcExt (hhll : Word) (s : State) : Out := accumulate adcOp (.mem (.ext hhll)) s

/-- ADC opr16,X (R161). -/
def execAdcIx2 (eeff : Word) (s : State) : Out := accumulate adcOp (.mem (.ix2 eeff)) s

/-- ADC opr8,X (R161). -/
def execAdcIx1 (ff : Byte) (s : State) : Out := accumulate adcOp (.mem (.ix1 ff)) s

/-- ADC ,X (R161). -/
def execAdcIx (s : State) : Out := accumulate adcOp (.mem .ix) s

/-- ADC opr16,SP (R161). -/
def execAdcSp2 (eeff : Word) (s : State) : Out := accumulate adcOp (.mem (.sp2 eeff)) s

/-- ADC opr8,SP (R161). -/
def execAdcSp1 (ff : Byte) (s : State) : Out := accumulate adcOp (.mem (.sp1 ff)) s

/-- ADD #opr8 (R162). -/
def execAddImm (ii : Byte) (s : State) : Out := accumulate addOp (.imm ii) s

/-- ADD opr8 (R162). -/
def execAddDir (dd : Byte) (s : State) : Out := accumulate addOp (.mem (.dir dd)) s

/-- ADD opr16 (R162). -/
def execAddExt (hhll : Word) (s : State) : Out := accumulate addOp (.mem (.ext hhll)) s

/-- ADD opr16,X (R162). -/
def execAddIx2 (eeff : Word) (s : State) : Out := accumulate addOp (.mem (.ix2 eeff)) s

/-- ADD opr8,X (R162). -/
def execAddIx1 (ff : Byte) (s : State) : Out := accumulate addOp (.mem (.ix1 ff)) s

/-- ADD ,X (R162). -/
def execAddIx (s : State) : Out := accumulate addOp (.mem .ix) s

/-- ADD opr16,SP (R162). -/
def execAddSp2 (eeff : Word) (s : State) : Out := accumulate addOp (.mem (.sp2 eeff)) s

/-- ADD opr8,SP (R162). -/
def execAddSp1 (ff : Byte) (s : State) : Out := accumulate addOp (.mem (.sp1 ff)) s

/-- AIS #opr8 (R163). -/
def execAis (ii : Byte) (s : State) : Out := .next (s.setSp (s.sp + sext16 ii))

/-- AIX #opr8 (R164). -/
def execAix (ii : Byte) (s : State) : Out := .next (s.setHX (s.hx + sext16 ii))

/-- ASR opr8 (R168). -/
def execAsrDir (dd : Byte) (s : State) : Out := modifyMem asrOp (.dir dd) s

/-- ASR opr8,X (R168). -/
def execAsrIx1 (ff : Byte) (s : State) : Out := modifyMem asrOp (.ix1 ff) s

/-- ASR ,X (R168). -/
def execAsrIx (s : State) : Out := modifyMem asrOp .ix s

/-- ASR opr8,SP (R168). -/
def execAsrSp1 (ff : Byte) (s : State) : Out := modifyMem asrOp (.sp1 ff) s

/-- ASRA (R169). -/
def execAsra (s : State) : Out := modifyA asrOp s

/-- ASRX (R170). -/
def execAsrx (s : State) : Out := modifyX asrOp s

/-- CMP #opr8 (R171). -/
def execCmpImm (ii : Byte) (s : State) : Out := examine State.a subOp (.imm ii) s

/-- CMP opr8 (R171). -/
def execCmpDir (dd : Byte) (s : State) : Out := examine State.a subOp (.mem (.dir dd)) s

/-- CMP opr16 (R171). -/
def execCmpExt (hhll : Word) (s : State) : Out := examine State.a subOp (.mem (.ext hhll)) s

/-- CMP opr16,X (R171). -/
def execCmpIx2 (eeff : Word) (s : State) : Out := examine State.a subOp (.mem (.ix2 eeff)) s

/-- CMP opr8,X (R171). -/
def execCmpIx1 (ff : Byte) (s : State) : Out := examine State.a subOp (.mem (.ix1 ff)) s

/-- CMP ,X (R171). -/
def execCmpIx (s : State) : Out := examine State.a subOp (.mem .ix) s

/-- CMP opr16,SP (R171). -/
def execCmpSp2 (eeff : Word) (s : State) : Out := examine State.a subOp (.mem (.sp2 eeff)) s

/-- CMP opr8,SP (R171). -/
def execCmpSp1 (ff : Byte) (s : State) : Out := examine State.a subOp (.mem (.sp1 ff)) s

/-- CPHX #opr16 (R172). -/
def execCphxImm (jjkk : Word) (s : State) : Out := compareHX (.imm jjkk) s

/-- CPHX opr8 (R172). -/
def execCphxDir (dd : Byte) (s : State) : Out := compareHX (.dir dd) s

/-- CPX #opr8 (R173). -/
def execCpxImm (ii : Byte) (s : State) : Out := examine State.x subOp (.imm ii) s

/-- CPX opr8 (R173). -/
def execCpxDir (dd : Byte) (s : State) : Out := examine State.x subOp (.mem (.dir dd)) s

/-- CPX opr16 (R173). -/
def execCpxExt (hhll : Word) (s : State) : Out := examine State.x subOp (.mem (.ext hhll)) s

/-- CPX opr16,X (R173). -/
def execCpxIx2 (eeff : Word) (s : State) : Out := examine State.x subOp (.mem (.ix2 eeff)) s

/-- CPX opr8,X (R173). -/
def execCpxIx1 (ff : Byte) (s : State) : Out := examine State.x subOp (.mem (.ix1 ff)) s

/-- CPX ,X (R173). -/
def execCpxIx (s : State) : Out := examine State.x subOp (.mem .ix) s

/-- CPX opr16,SP (R173). -/
def execCpxSp2 (eeff : Word) (s : State) : Out := examine State.x subOp (.mem (.sp2 eeff)) s

/-- CPX opr8,SP (R173). -/
def execCpxSp1 (ff : Byte) (s : State) : Out := examine State.x subOp (.mem (.sp1 ff)) s

/-- DAA (R174). -/
def execDaa (s : State) : Out := .next s.decimalAdjusted

/-- DEC opr8 (R175). -/
def execDecDir (dd : Byte) (s : State) : Out := modifyMem decOp (.dir dd) s

/-- DEC opr8,X (R175). -/
def execDecIx1 (ff : Byte) (s : State) : Out := modifyMem decOp (.ix1 ff) s

/-- DEC ,X (R175). -/
def execDecIx (s : State) : Out := modifyMem decOp .ix s

/-- DEC opr8,SP (R175). -/
def execDecSp1 (ff : Byte) (s : State) : Out := modifyMem decOp (.sp1 ff) s

/-- DECA (R176). -/
def execDeca (s : State) : Out := modifyA decOp s

/-- DECX (R177). -/
def execDecx (s : State) : Out := modifyX decOp s

/-- DIV (R178). -/
def execDiv (s : State) : Out := .next s.divided

/-- INC opr8 (R179). -/
def execIncDir (dd : Byte) (s : State) : Out := modifyMem incOp (.dir dd) s

/-- INC opr8,X (R179). -/
def execIncIx1 (ff : Byte) (s : State) : Out := modifyMem incOp (.ix1 ff) s

/-- INC ,X (R179). -/
def execIncIx (s : State) : Out := modifyMem incOp .ix s

/-- INC opr8,SP (R179). -/
def execIncSp1 (ff : Byte) (s : State) : Out := modifyMem incOp (.sp1 ff) s

/-- INCA (R180). -/
def execInca (s : State) : Out := modifyA incOp s

/-- INCX (R181). -/
def execIncx (s : State) : Out := modifyX incOp s

/-- MUL (R182). -/
def execMul (s : State) : Out := .next s.multiplied

/-- NSA (R183). -/
def execNsa (s : State) : Out := .next (s.setA (s.a.extractLsb' 0 4 ++ s.a.extractLsb' 4 4))

/-- SBC #opr8 (R184). -/
def execSbcImm (ii : Byte) (s : State) : Out := accumulate sbcOp (.imm ii) s

/-- SBC opr8 (R184). -/
def execSbcDir (dd : Byte) (s : State) : Out := accumulate sbcOp (.mem (.dir dd)) s

/-- SBC opr16 (R184). -/
def execSbcExt (hhll : Word) (s : State) : Out := accumulate sbcOp (.mem (.ext hhll)) s

/-- SBC opr16,X (R184). -/
def execSbcIx2 (eeff : Word) (s : State) : Out := accumulate sbcOp (.mem (.ix2 eeff)) s

/-- SBC opr8,X (R184). -/
def execSbcIx1 (ff : Byte) (s : State) : Out := accumulate sbcOp (.mem (.ix1 ff)) s

/-- SBC ,X (R184). -/
def execSbcIx (s : State) : Out := accumulate sbcOp (.mem .ix) s

/-- SBC opr16,SP (R184). -/
def execSbcSp2 (eeff : Word) (s : State) : Out := accumulate sbcOp (.mem (.sp2 eeff)) s

/-- SBC opr8,SP (R184). -/
def execSbcSp1 (ff : Byte) (s : State) : Out := accumulate sbcOp (.mem (.sp1 ff)) s

/-- SUB #opr8 (R185). -/
def execSubImm (ii : Byte) (s : State) : Out := accumulate subOp (.imm ii) s

/-- SUB opr8 (R185). -/
def execSubDir (dd : Byte) (s : State) : Out := accumulate subOp (.mem (.dir dd)) s

/-- SUB opr16 (R185). -/
def execSubExt (hhll : Word) (s : State) : Out := accumulate subOp (.mem (.ext hhll)) s

/-- SUB opr16,X (R185). -/
def execSubIx2 (eeff : Word) (s : State) : Out := accumulate subOp (.mem (.ix2 eeff)) s

/-- SUB opr8,X (R185). -/
def execSubIx1 (ff : Byte) (s : State) : Out := accumulate subOp (.mem (.ix1 ff)) s

/-- SUB ,X (R185). -/
def execSubIx (s : State) : Out := accumulate subOp (.mem .ix) s

/-- SUB opr16,SP (R185). -/
def execSubSp2 (eeff : Word) (s : State) : Out := accumulate subOp (.mem (.sp2 eeff)) s

/-- SUB opr8,SP (R185). -/
def execSubSp1 (ff : Byte) (s : State) : Out := accumulate subOp (.mem (.sp1 ff)) s

/-- TST opr8 (R186). -/
def execTstDir (dd : Byte) (s : State) : Out := testMem (.dir dd) s

/-- TST opr8,X (R186). -/
def execTstIx1 (ff : Byte) (s : State) : Out := testMem (.ix1 ff) s

/-- TST ,X (R186). -/
def execTstIx (s : State) : Out := testMem .ix s

/-- TST opr8,SP (R186). -/
def execTstSp1 (ff : Byte) (s : State) : Out := testMem (.sp1 ff) s

/-- TSTA (R187). -/
def execTsta (s : State) : Out := .next (s.setCcr (s.ccr.moved8 s.a))

/-- TSTX (R188). -/
def execTstx (s : State) : Out := .next (s.setCcr (s.ccr.moved8 s.x))

/-- LSL opr8 (R165, R207). -/
def execLslDir (dd : Byte) (s : State) : Out := modifyMem lslOp (.dir dd) s

/-- LSL opr8,X (R165, R207). -/
def execLslIx1 (ff : Byte) (s : State) : Out := modifyMem lslOp (.ix1 ff) s

/-- LSL ,X (R165, R207). -/
def execLslIx (s : State) : Out := modifyMem lslOp .ix s

/-- LSL opr8,SP (R165, R207). -/
def execLslSp1 (ff : Byte) (s : State) : Out := modifyMem lslOp (.sp1 ff) s

/-- LSLA (R166, R208). -/
def execLsla (s : State) : Out := modifyA lslOp s

/-- LSLX (R167, R209). -/
def execLslx (s : State) : Out := modifyX lslOp s

end Sys2Proof.Machine
end

