-- ==== Sys2Proof/Machine/BitOps.lean ====
section
/-! DEFINITION. The bit instructions: spec/45_bit.md R290, R291. -/

namespace Sys2Proof.Machine

/-- BCLR n,opr8 (R290). -/
def execBclr (n : BitVec 3) (dd : Byte) (s : State) : Out := modifyBit (fun v => v &&& ~~~bitMask n) dd s

/-- BSET n,opr8 (R291). -/
def execBset (n : BitVec 3) (dd : Byte) (s : State) : Out := modifyBit (fun v => v ||| bitMask n) dd s

end Sys2Proof.Machine
end

