-- ==== Sys2Proof/Machine/Branches.lean ====
section
/-! DEFINITION. Jumps and branches: spec/43_jumps_branches.md R230 to R261. -/

namespace Sys2Proof.Machine

/-- JMP opr8 (R231). -/
def execJmpDir (dd : Byte) (s : State) : Out := jump (.dir dd) s

/-- JMP opr16 (R231). -/
def execJmpExt (hhll : Word) (s : State) : Out := jump (.ext hhll) s

/-- JMP opr16,X (R231). -/
def execJmpIx2 (eeff : Word) (s : State) : Out := jump (.ix2 eeff) s

/-- JMP opr8,X (R231). -/
def execJmpIx1 (ff : Byte) (s : State) : Out := jump (.ix1 ff) s

/-- JMP ,X (R231). -/
def execJmpIx (s : State) : Out := jump .ix s

/-- BCC rel (R232). -/
def execBcc (rr : Byte) (s : State) : Out := branchIf (!s.ccr.c) rr s

/-- BCS rel (R233). -/
def execBcs (rr : Byte) (s : State) : Out := branchIf s.ccr.c rr s

/-- BEQ rel (R234). -/
def execBeq (rr : Byte) (s : State) : Out := branchIf s.ccr.z rr s

/-- BGE rel (R235). -/
def execBge (rr : Byte) (s : State) : Out := branchIf (!xor s.ccr.n s.ccr.v) rr s

/-- BGT rel (R236). -/
def execBgt (rr : Byte) (s : State) : Out := branchIf (!(s.ccr.z || xor s.ccr.n s.ccr.v)) rr s

/-- BHCC rel (R237). -/
def execBhcc (rr : Byte) (s : State) : Out := branchIf (!s.ccr.h) rr s

/-- BHCS rel (R238). -/
def execBhcs (rr : Byte) (s : State) : Out := branchIf s.ccr.h rr s

/-- BHI rel (R239). -/
def execBhi (rr : Byte) (s : State) : Out := branchIf (!(s.ccr.c || s.ccr.z)) rr s

/-- BIH rel (R241). -/
def execBih (rr : Byte) (s : State) : Out := branchIf s.irqPinHigh rr s

/-- BIL rel (R242). -/
def execBil (rr : Byte) (s : State) : Out := branchIf (!s.irqPinHigh) rr s

/-- BLE rel (R243). -/
def execBle (rr : Byte) (s : State) : Out := branchIf (s.ccr.z || xor s.ccr.n s.ccr.v) rr s

/-- BLS rel (R245). -/
def execBls (rr : Byte) (s : State) : Out := branchIf (s.ccr.c || s.ccr.z) rr s

/-- BLT rel (R246). -/
def execBlt (rr : Byte) (s : State) : Out := branchIf (xor s.ccr.n s.ccr.v) rr s

/-- BMC rel (R247). -/
def execBmc (rr : Byte) (s : State) : Out := branchIf (!s.ccr.i) rr s

/-- BMI rel (R248). -/
def execBmi (rr : Byte) (s : State) : Out := branchIf s.ccr.n rr s

/-- BMS rel (R249). -/
def execBms (rr : Byte) (s : State) : Out := branchIf s.ccr.i rr s

/-- BNE rel (R250). -/
def execBne (rr : Byte) (s : State) : Out := branchIf (!s.ccr.z) rr s

/-- BPL rel (R251). -/
def execBpl (rr : Byte) (s : State) : Out := branchIf (!s.ccr.n) rr s

/-- BRA rel (R252). -/
def execBra (rr : Byte) (s : State) : Out := branchIf true rr s

/-- BRCLR n,opr8,rel (R253). -/
def execBrclr (n : BitVec 3) (dd : Byte) (rr : Byte) (s : State) : Out := branchOnBit false n dd rr s

/-- BRN rel (R254). -/
def execBrn (rr : Byte) (s : State) : Out := branchIf false rr s

/-- BRSET n,opr8,rel (R255). -/
def execBrset (n : BitVec 3) (dd : Byte) (rr : Byte) (s : State) : Out := branchOnBit true n dd rr s

/-- CBEQ opr8,rel (R256). -/
def execCbeqDir (dd : Byte) (rr : Byte) (s : State) : Out := compareBranch (.dir dd) rr s

/-- CBEQ opr8,X+,rel (R256). -/
def execCbeqIx1Plus (ff : Byte) (rr : Byte) (s : State) : Out := compareBranchInc (.ix1 ff) rr s

/-- CBEQ X+,rel (R256). -/
def execCbeqIxPlus (rr : Byte) (s : State) : Out := compareBranchInc .ix rr s

/-- CBEQ opr8,SP,rel (R256). -/
def execCbeqSp1 (ff : Byte) (rr : Byte) (s : State) : Out := compareBranch (.sp1 ff) rr s

/-- CBEQA #opr8,rel (R257). -/
def execCbeqa (ii : Byte) (rr : Byte) (s : State) : Out := branchIf (s.a == ii) rr s

/-- CBEQX #opr8,rel (R258). -/
def execCbeqx (ii : Byte) (rr : Byte) (s : State) : Out := branchIf (s.x == ii) rr s

/-- DBNZ opr8,rel (R259). -/
def execDbnzDir (dd : Byte) (rr : Byte) (s : State) : Out := decrementBranch (.dir dd) rr s

/-- DBNZ opr8,X,rel (R259). -/
def execDbnzIx1 (ff : Byte) (rr : Byte) (s : State) : Out := decrementBranch (.ix1 ff) rr s

/-- DBNZ X,rel (R259). -/
def execDbnzIx (rr : Byte) (s : State) : Out := decrementBranch .ix rr s

/-- DBNZ opr8,SP,rel (R259). -/
def execDbnzSp1 (ff : Byte) (rr : Byte) (s : State) : Out := decrementBranch (.sp1 ff) rr s

/-- DBNZA rel (R260). -/
def execDbnza (rr : Byte) (s : State) : Out := .next ((s.setA (s.a - 1)).branch (s.a - 1 != 0x00#8) rr)

/-- DBNZX rel (R261). -/
def execDbnzx (rr : Byte) (s : State) : Out := .next ((s.setX (s.x - 1)).branch (s.x - 1 != 0x00#8) rr)

end Sys2Proof.Machine
end

