-- ==== Sys2Proof/Machine/Control.lean ====
section
/-! DEFINITION. SWI, low power and processor control: spec/46_control.md R295 to R302. -/

namespace Sys2Proof.Machine

/-- SWI (R295). -/
def execSwi (s : State) : Out := s.withException s.mode.swiVector .next

/-- STOP (R296). -/
def execStop (s : State) : Out :=
  .next (if s.sim.stopEnabled then (s.setCcr { s.ccr with i := false }).setRun .stopped
    else s.resetSequence ResetCause.ilop.bit)

/-- WAIT (R297). -/
def execWait (s : State) : Out := .next ((s.setCcr { s.ccr with i := false }).setRun .waiting)

/-- NOP (R298). -/
def execNop (s : State) : Out := .next s

/-- CLC (R299). -/
def execClc (s : State) : Out := .next (s.setCcr { s.ccr with c := false })

/-- SEC (R300). -/
def execSec (s : State) : Out := .next (s.setCcr { s.ccr with c := true })

/-- CLI (R301). -/
def execCli (s : State) : Out := .next ((s.setCcr { s.ccr with i := false }).setIrqHold (s.ccr.i && s.cfg.cliDelay))

/-- SEI (R302). -/
def execSei (s : State) : Out := .next (s.setCcr { s.ccr with i := true })

end Sys2Proof.Machine
end

