-- ==== Sys2Proof/Machine/DataMovement.lean ====
section
/-! DEFINITION. The data movement instructions: spec/40_data_movement.md R121 to R144. -/

namespace Sys2Proof.Machine

/-- The second half of a MOV with post-increment: the byte is written, H:X grows by one (R96, R129). -/
def moveToInc (a : Word) (v : Byte) (s : State) : Out :=
  s.withWrite a v fun s => .next ((s.setHX (s.hx + 1)).setCcr (s.ccr.moved8 v))

/-- LDA #opr8 (R121). -/
def execLdaImm (ii : Byte) (s : State) : Out := loadA (.imm ii) s

/-- LDA opr8 (R121). -/
def execLdaDir (dd : Byte) (s : State) : Out := loadA (.mem (.dir dd)) s

/-- LDA opr16 (R121). -/
def execLdaExt (hhll : Word) (s : State) : Out := loadA (.mem (.ext hhll)) s

/-- LDA opr16,X (R121). -/
def execLdaIx2 (eeff : Word) (s : State) : Out := loadA (.mem (.ix2 eeff)) s

/-- LDA opr8,X (R121). -/
def execLdaIx1 (ff : Byte) (s : State) : Out := loadA (.mem (.ix1 ff)) s

/-- LDA ,X (R121). -/
def execLdaIx (s : State) : Out := loadA (.mem .ix) s

/-- LDA opr16,SP (R121). -/
def execLdaSp2 (eeff : Word) (s : State) : Out := loadA (.mem (.sp2 eeff)) s

/-- LDA opr8,SP (R121). -/
def execLdaSp1 (ff : Byte) (s : State) : Out := loadA (.mem (.sp1 ff)) s

/-- LDHX #opr16 (R122). -/
def execLdhxImm (jjkk : Word) (s : State) : Out := loadHX (.imm jjkk) s

/-- LDHX opr8 (R122). -/
def execLdhxDir (dd : Byte) (s : State) : Out := loadHX (.dir dd) s

/-- LDX #opr8 (R123). -/
def execLdxImm (ii : Byte) (s : State) : Out := loadX (.imm ii) s

/-- LDX opr8 (R123). -/
def execLdxDir (dd : Byte) (s : State) : Out := loadX (.mem (.dir dd)) s

/-- LDX opr16 (R123). -/
def execLdxExt (hhll : Word) (s : State) : Out := loadX (.mem (.ext hhll)) s

/-- LDX opr16,X (R123). -/
def execLdxIx2 (eeff : Word) (s : State) : Out := loadX (.mem (.ix2 eeff)) s

/-- LDX opr8,X (R123). -/
def execLdxIx1 (ff : Byte) (s : State) : Out := loadX (.mem (.ix1 ff)) s

/-- LDX ,X (R123). -/
def execLdxIx (s : State) : Out := loadX (.mem .ix) s

/-- LDX opr16,SP (R123). -/
def execLdxSp2 (eeff : Word) (s : State) : Out := loadX (.mem (.sp2 eeff)) s

/-- LDX opr8,SP (R123). -/
def execLdxSp1 (ff : Byte) (s : State) : Out := loadX (.mem (.sp1 ff)) s

/-- STA opr8 (R124). -/
def execStaDir (dd : Byte) (s : State) : Out := storeReg (.dir dd) s.a s

/-- STA opr16 (R124). -/
def execStaExt (hhll : Word) (s : State) : Out := storeReg (.ext hhll) s.a s

/-- STA opr16,X (R124). -/
def execStaIx2 (eeff : Word) (s : State) : Out := storeReg (.ix2 eeff) s.a s

/-- STA opr8,X (R124). -/
def execStaIx1 (ff : Byte) (s : State) : Out := storeReg (.ix1 ff) s.a s

/-- STA ,X (R124). -/
def execStaIx (s : State) : Out := storeReg .ix s.a s

/-- STA opr16,SP (R124). -/
def execStaSp2 (eeff : Word) (s : State) : Out := storeReg (.sp2 eeff) s.a s

/-- STA opr8,SP (R124). -/
def execStaSp1 (ff : Byte) (s : State) : Out := storeReg (.sp1 ff) s.a s

/-- STHX opr8 (R125). -/
def execSthx (dd : Byte) (s : State) : Out := storeHX dd s

/-- STX opr8 (R126). -/
def execStxDir (dd : Byte) (s : State) : Out := storeReg (.dir dd) s.x s

/-- STX opr16 (R126). -/
def execStxExt (hhll : Word) (s : State) : Out := storeReg (.ext hhll) s.x s

/-- STX opr16,X (R126). -/
def execStxIx2 (eeff : Word) (s : State) : Out := storeReg (.ix2 eeff) s.x s

/-- STX opr8,X (R126). -/
def execStxIx1 (ff : Byte) (s : State) : Out := storeReg (.ix1 ff) s.x s

/-- STX ,X (R126). -/
def execStxIx (s : State) : Out := storeReg .ix s.x s

/-- STX opr16,SP (R126). -/
def execStxSp2 (eeff : Word) (s : State) : Out := storeReg (.sp2 eeff) s.x s

/-- STX opr8,SP (R126). -/
def execStxSp1 (ff : Byte) (s : State) : Out := storeReg (.sp1 ff) s.x s

/-- TAX (R127). -/
def execTax (s : State) : Out := .next (s.setX s.a)

/-- TXA (R128). -/
def execTxa (s : State) : Out := .next (s.setA s.x)

/-- MOV opr8,opr8 (R129). -/
def execMovDd (ss : Byte) (dd : Byte) (s : State) : Out := s.withRead (zext16 ss) fun v s => moveTo (zext16 dd) v s

/-- MOV opr8,X+ (R129). -/
def execMovDixPlus (ss : Byte) (s : State) : Out := s.withRead (zext16 ss) fun v s => moveToInc s.hx v s

/-- MOV #opr8,opr8 (R129). -/
def execMovImd (ii : Byte) (dd : Byte) (s : State) : Out := moveTo (zext16 dd) ii s

/-- MOV X+,opr8 (R129). -/
def execMovIxPlusD (dd : Byte) (s : State) : Out := s.withRead s.hx fun v s => moveToInc (zext16 dd) v s

/-- PSHA (R130). -/
def execPsha (s : State) : Out := s.withPush s.a .next

/-- PSHH (R131). -/
def execPshh (s : State) : Out := s.withPush s.h .next

/-- PSHX (R132). -/
def execPshx (s : State) : Out := s.withPush s.x .next

/-- PULA (R133). -/
def execPula (s : State) : Out := s.withPull fun v s => .next (s.setA v)

/-- PULH (R134). -/
def execPulh (s : State) : Out := s.withPull fun v s => .next (s.setH v)

/-- PULX (R135). -/
def execPulx (s : State) : Out := s.withPull fun v s => .next (s.setX v)

/-- CLR opr8 (R136). -/
def execClrDir (dd : Byte) (s : State) : Out := clearMem (.dir dd) s

/-- CLR opr8,X (R136). -/
def execClrIx1 (ff : Byte) (s : State) : Out := clearMem (.ix1 ff) s

/-- CLR ,X (R136). -/
def execClrIx (s : State) : Out := clearMem .ix s

/-- CLR opr8,SP (R136). -/
def execClrSp1 (ff : Byte) (s : State) : Out := clearMem (.sp1 ff) s

/-- CLRA (R137). -/
def execClra (s : State) : Out := .next ((s.setA 0x00#8).setCcr s.ccr.cleared)

/-- CLRX (R138). -/
def execClrx (s : State) : Out := .next ((s.setX 0x00#8).setCcr s.ccr.cleared)

/-- CLRH (R139). -/
def execClrh (s : State) : Out := .next ((s.setH 0x00#8).setCcr s.ccr.cleared)

/-- RSP (R140). -/
def execRsp (s : State) : Out := .next (s.setSp (joinBytes (hiByte s.sp) 0xFF#8))

/-- TAP (R141). -/
def execTap (s : State) : Out :=
  .next ((s.setCcr (Flags.ofByte s.a)).setIrqHold (s.ccr.i && !(Flags.ofByte s.a).i && s.cfg.cliDelay))

/-- TPA (R142). -/
def execTpa (s : State) : Out := .next (s.setA s.ccr.toByte)

/-- TSX (R143). -/
def execTsx (s : State) : Out := .next (s.setHX (s.sp + (if s.cfg.stackXferAdj then 1 else 0)))

/-- TXS (R144). -/
def execTxs (s : State) : Out := .next (s.setSp (s.hx - (if s.cfg.stackXferAdj then 1 else 0)))

end Sys2Proof.Machine
end

