-- ==== Sys2Proof/Machine/Illegal.lean ====
section
/-! DEFINITION. Illegal encodings: spec/30_encoding.md R104 and spec/60_exceptions.md R316: the reset takes them at decode. -/

namespace Sys2Proof.Machine

/-- The illegal opcode $32 (R104, R316). -/
def execIllegal32 (s : State) : Out := s.raiseReset .ilop

/-- The illegal opcode $3E (R104, R316). -/
def execIllegal3E (s : State) : Out := s.raiseReset .ilop

/-- The illegal opcode $82 (R104, R316). -/
def execIllegal82 (s : State) : Out := s.raiseReset .ilop

/-- The illegal opcode $8D (R104, R316). -/
def execIllegal8D (s : State) : Out := s.raiseReset .ilop

/-- The illegal opcode $96 (R104, R316). -/
def execIllegal96 (s : State) : Out := s.raiseReset .ilop

/-- The illegal opcode $AC (R104, R316). -/
def execIllegalAC (s : State) : Out := s.raiseReset .ilop

/-- The prefix $9E before a byte that selects nothing (R103, R104, R316). -/
def execIllegalPage2 (_b1 : Byte) (s : State) : Out := s.raiseReset .ilop

end Sys2Proof.Machine
end

