-- ==== Sys2Proof/Machine/Logic.lean ====
section
/-! DEFINITION. The logic instructions: spec/42_logic.md R201 to R222. -/

namespace Sys2Proof.Machine

/-- AND #opr8 (R201). -/
def execAndImm (ii : Byte) (s : State) : Out := accumulate andOp (.imm ii) s

/-- AND opr8 (R201). -/
def execAndDir (dd : Byte) (s : State) : Out := accumulate andOp (.mem (.dir dd)) s

/-- AND opr16 (R201). -/
def execAndExt (hhll : Word) (s : State) : Out := accumulate andOp (.mem (.ext hhll)) s

/-- AND opr16,X (R201). -/
def execAndIx2 (eeff : Word) (s : State) : Out := accumulate andOp (.mem (.ix2 eeff)) s

/-- AND opr8,X (R201). -/
def execAndIx1 (ff : Byte) (s : State) : Out := accumulate andOp (.mem (.ix1 ff)) s

/-- AND ,X (R201). -/
def execAndIx (s : State) : Out := accumulate andOp (.mem .ix) s

/-- AND opr16,SP (R201). -/
def execAndSp2 (eeff : Word) (s : State) : Out := accumulate andOp (.mem (.sp2 eeff)) s

/-- AND opr8,SP (R201). -/
def execAndSp1 (ff : Byte) (s : State) : Out := accumulate andOp (.mem (.sp1 ff)) s

/-- BIT #opr8 (R202). -/
def execBitImm (ii : Byte) (s : State) : Out := examine State.a andOp (.imm ii) s

/-- BIT opr8 (R202). -/
def execBitDir (dd : Byte) (s : State) : Out := examine State.a andOp (.mem (.dir dd)) s

/-- BIT opr16 (R202). -/
def execBitExt (hhll : Word) (s : State) : Out := examine State.a andOp (.mem (.ext hhll)) s

/-- BIT opr16,X (R202). -/
def execBitIx2 (eeff : Word) (s : State) : Out := examine State.a andOp (.mem (.ix2 eeff)) s

/-- BIT opr8,X (R202). -/
def execBitIx1 (ff : Byte) (s : State) : Out := examine State.a andOp (.mem (.ix1 ff)) s

/-- BIT ,X (R202). -/
def execBitIx (s : State) : Out := examine State.a andOp (.mem .ix) s

/-- BIT opr16,SP (R202). -/
def execBitSp2 (eeff : Word) (s : State) : Out := examine State.a andOp (.mem (.sp2 eeff)) s

/-- BIT opr8,SP (R202). -/
def execBitSp1 (ff : Byte) (s : State) : Out := examine State.a andOp (.mem (.sp1 ff)) s

/-- COM opr8 (R203). -/
def execComDir (dd : Byte) (s : State) : Out := modifyMem comOp (.dir dd) s

/-- COM opr8,X (R203). -/
def execComIx1 (ff : Byte) (s : State) : Out := modifyMem comOp (.ix1 ff) s

/-- COM ,X (R203). -/
def execComIx (s : State) : Out := modifyMem comOp .ix s

/-- COM opr8,SP (R203). -/
def execComSp1 (ff : Byte) (s : State) : Out := modifyMem comOp (.sp1 ff) s

/-- COMA (R204). -/
def execComa (s : State) : Out := modifyA comOp s

/-- COMX (R205). -/
def execComx (s : State) : Out := modifyX comOp s

/-- EOR #opr8 (R206). -/
def execEorImm (ii : Byte) (s : State) : Out := accumulate eorOp (.imm ii) s

/-- EOR opr8 (R206). -/
def execEorDir (dd : Byte) (s : State) : Out := accumulate eorOp (.mem (.dir dd)) s

/-- EOR opr16 (R206). -/
def execEorExt (hhll : Word) (s : State) : Out := accumulate eorOp (.mem (.ext hhll)) s

/-- EOR opr16,X (R206). -/
def execEorIx2 (eeff : Word) (s : State) : Out := accumulate eorOp (.mem (.ix2 eeff)) s

/-- EOR opr8,X (R206). -/
def execEorIx1 (ff : Byte) (s : State) : Out := accumulate eorOp (.mem (.ix1 ff)) s

/-- EOR ,X (R206). -/
def execEorIx (s : State) : Out := accumulate eorOp (.mem .ix) s

/-- EOR opr16,SP (R206). -/
def execEorSp2 (eeff : Word) (s : State) : Out := accumulate eorOp (.mem (.sp2 eeff)) s

/-- EOR opr8,SP (R206). -/
def execEorSp1 (ff : Byte) (s : State) : Out := accumulate eorOp (.mem (.sp1 ff)) s

/-- LSR opr8 (R210). -/
def execLsrDir (dd : Byte) (s : State) : Out := modifyMem lsrOp (.dir dd) s

/-- LSR opr8,X (R210). -/
def execLsrIx1 (ff : Byte) (s : State) : Out := modifyMem lsrOp (.ix1 ff) s

/-- LSR ,X (R210). -/
def execLsrIx (s : State) : Out := modifyMem lsrOp .ix s

/-- LSR opr8,SP (R210). -/
def execLsrSp1 (ff : Byte) (s : State) : Out := modifyMem lsrOp (.sp1 ff) s

/-- LSRA (R211). -/
def execLsra (s : State) : Out := modifyA lsrOp s

/-- LSRX (R212). -/
def execLsrx (s : State) : Out := modifyX lsrOp s

/-- NEG opr8 (R213). -/
def execNegDir (dd : Byte) (s : State) : Out := modifyMem negOp (.dir dd) s

/-- NEG opr8,X (R213). -/
def execNegIx1 (ff : Byte) (s : State) : Out := modifyMem negOp (.ix1 ff) s

/-- NEG ,X (R213). -/
def execNegIx (s : State) : Out := modifyMem negOp .ix s

/-- NEG opr8,SP (R213). -/
def execNegSp1 (ff : Byte) (s : State) : Out := modifyMem negOp (.sp1 ff) s

/-- NEGA (R214). -/
def execNega (s : State) : Out := modifyA negOp s

/-- NEGX (R215). -/
def execNegx (s : State) : Out := modifyX negOp s

/-- ORA #opr8 (R216). -/
def execOraImm (ii : Byte) (s : State) : Out := accumulate oraOp (.imm ii) s

/-- ORA opr8 (R216). -/
def execOraDir (dd : Byte) (s : State) : Out := accumulate oraOp (.mem (.dir dd)) s

/-- ORA opr16 (R216). -/
def execOraExt (hhll : Word) (s : State) : Out := accumulate oraOp (.mem (.ext hhll)) s

/-- ORA opr16,X (R216). -/
def execOraIx2 (eeff : Word) (s : State) : Out := accumulate oraOp (.mem (.ix2 eeff)) s

/-- ORA opr8,X (R216). -/
def execOraIx1 (ff : Byte) (s : State) : Out := accumulate oraOp (.mem (.ix1 ff)) s

/-- ORA ,X (R216). -/
def execOraIx (s : State) : Out := accumulate oraOp (.mem .ix) s

/-- ORA opr16,SP (R216). -/
def execOraSp2 (eeff : Word) (s : State) : Out := accumulate oraOp (.mem (.sp2 eeff)) s

/-- ORA opr8,SP (R216). -/
def execOraSp1 (ff : Byte) (s : State) : Out := accumulate oraOp (.mem (.sp1 ff)) s

/-- ROL opr8 (R217). -/
def execRolDir (dd : Byte) (s : State) : Out := modifyMem rolOp (.dir dd) s

/-- ROL opr8,X (R217). -/
def execRolIx1 (ff : Byte) (s : State) : Out := modifyMem rolOp (.ix1 ff) s

/-- ROL ,X (R217). -/
def execRolIx (s : State) : Out := modifyMem rolOp .ix s

/-- ROL opr8,SP (R217). -/
def execRolSp1 (ff : Byte) (s : State) : Out := modifyMem rolOp (.sp1 ff) s

/-- ROLA (R218). -/
def execRola (s : State) : Out := modifyA rolOp s

/-- ROLX (R219). -/
def execRolx (s : State) : Out := modifyX rolOp s

/-- ROR opr8 (R220). -/
def execRorDir (dd : Byte) (s : State) : Out := modifyMem rorOp (.dir dd) s

/-- ROR opr8,X (R220). -/
def execRorIx1 (ff : Byte) (s : State) : Out := modifyMem rorOp (.ix1 ff) s

/-- ROR ,X (R220). -/
def execRorIx (s : State) : Out := modifyMem rorOp .ix s

/-- ROR opr8,SP (R220). -/
def execRorSp1 (ff : Byte) (s : State) : Out := modifyMem rorOp (.sp1 ff) s

/-- RORA (R221). -/
def execRora (s : State) : Out := modifyA rorOp s

/-- RORX (R222). -/
def execRorx (s : State) : Out := modifyX rorOp s

end Sys2Proof.Machine
end

