-- ==== Sys2Proof/Machine/Prefix.lean ====
section
/-! DEFINITION. The prefix $9E as a term of its own (spec/30_encoding.md R98, R103): PC is at the byte after it, which selects
an instruction of page 2. -/

namespace Sys2Proof.Machine

/-- A page-2 instruction by the operand bytes it still has to fetch (R81, R105). -/
inductive Page2Run where
  | sp1 (f : Byte → State → Out)
  | sp2 (f : Word → State → Out)
  | sp1Rel (f : Byte → Byte → State → Out)

/-- $9E $6x (R103). -/
def page2Runs6 : List (Byte × Page2Run) :=
  [(0x60#8, .sp1 execNegSp1), (0x61#8, .sp1Rel execCbeqSp1), (0x63#8, .sp1 execComSp1), (0x64#8, .sp1 execLsrSp1),
   (0x66#8, .sp1 execRorSp1), (0x67#8, .sp1 execAsrSp1), (0x68#8, .sp1 execLslSp1), (0x69#8, .sp1 execRolSp1),
   (0x6A#8, .sp1 execDecSp1), (0x6B#8, .sp1Rel execDbnzSp1), (0x6C#8, .sp1 execIncSp1), (0x6D#8, .sp1 execTstSp1),
   (0x6F#8, .sp1 execClrSp1)]

/-- $9E $Dx (R103). -/
def page2RunsD : List (Byte × Page2Run) :=
  [(0xD0#8, .sp2 execSubSp2), (0xD1#8, .sp2 execCmpSp2), (0xD2#8, .sp2 execSbcSp2), (0xD3#8, .sp2 execCpxSp2),
   (0xD4#8, .sp2 execAndSp2), (0xD5#8, .sp2 execBitSp2), (0xD6#8, .sp2 execLdaSp2), (0xD7#8, .sp2 execStaSp2),
   (0xD8#8, .sp2 execEorSp2), (0xD9#8, .sp2 execAdcSp2), (0xDA#8, .sp2 execOraSp2), (0xDB#8, .sp2 execAddSp2),
   (0xDE#8, .sp2 execLdxSp2), (0xDF#8, .sp2 execStxSp2)]

/-- $9E $Ex (R103). -/
def page2RunsE : List (Byte × Page2Run) :=
  [(0xE0#8, .sp1 execSubSp1), (0xE1#8, .sp1 execCmpSp1), (0xE2#8, .sp1 execSbcSp1), (0xE3#8, .sp1 execCpxSp1),
   (0xE4#8, .sp1 execAndSp1), (0xE5#8, .sp1 execBitSp1), (0xE6#8, .sp1 execLdaSp1), (0xE7#8, .sp1 execStaSp1),
   (0xE8#8, .sp1 execEorSp1), (0xE9#8, .sp1 execAdcSp1), (0xEA#8, .sp1 execOraSp1), (0xEB#8, .sp1 execAddSp1),
   (0xEE#8, .sp1 execLdxSp1), (0xEF#8, .sp1 execStxSp1)]

/-- `Fetch8()`, then `k` (R8). -/
def State.withFetch8 (s : State) (k : Byte → State → Out) : Out :=
  s.withRead s.pc fun v t => k v (t.setPc (s.pc + 1))

/-- The prefix $9E (R98, R103): the next byte selects the instruction, whose operand bytes follow it. -/
def execPage2Prefix (s : State) : Out :=
  s.withFetch8 fun b1 s =>
  match (page2Runs6 ++ page2RunsD ++ page2RunsE).lookup b1 with
  | none => execIllegalPage2 b1 s
  | some (.sp1 f) => s.withFetch8 fun ff s => f ff s
  | some (.sp2 f) => s.withFetch8 fun ee s => s.withFetch8 fun ff s => f (joinBytes ee ff) s
  | some (.sp1Rel f) => s.withFetch8 fun ff s => s.withFetch8 fun rr s => f ff rr s

end Sys2Proof.Machine
end

