-- ==== Sys2Proof/Machine/Subroutines.lean ====
section
/-! DEFINITION. Calls and returns: spec/44_subroutines.md R280 to R283. -/

namespace Sys2Proof.Machine

/-- BSR rel (R280). -/
def execBsr (rr : Byte) (s : State) : Out := s.withPushPc fun s => .next (s.branch true rr)

/-- JSR opr8 (R281). -/
def execJsrDir (dd : Byte) (s : State) : Out := call (.dir dd) s

/-- JSR opr16 (R281). -/
def execJsrExt (hhll : Word) (s : State) : Out := call (.ext hhll) s

/-- JSR opr16,X (R281). -/
def execJsrIx2 (eeff : Word) (s : State) : Out := call (.ix2 eeff) s

/-- JSR opr8,X (R281). -/
def execJsrIx1 (ff : Byte) (s : State) : Out := call (.ix1 ff) s

/-- JSR ,X (R281). -/
def execJsrIx (s : State) : Out := call .ix s

/-- RTI (R282). -/
def execRti (s : State) : Out := s.withReturn .next

/-- RTS (R283). -/
def execRts (s : State) : Out := s.withPullPc .next

end Sys2Proof.Machine
end

