-- ==== Sys2Proof/Syntax.lean ====
section
/-! DEFINITION. The instructions: one constructor per row of spec/opcode_table.json (spec/30_encoding.md R98 to R104).

Operand fields (R81): `ii` an 8-bit and `jjkk` a 16-bit immediate, `dd` and `ss` direct addresses, `hhll` an extended address,
`ff` an 8-bit and `eeff` a 16-bit offset, `rr` a branch offset, `n` a bit number. The constructors without operand come
last: Lean can run code over at most 244 constructors that carry data. -/

namespace Sys2Proof

/-- The instructions of the CPU08. -/
inductive Instr where
  /-- BRSET n,opr8,rel (R255). -/
  | brset (n : BitVec 3) (dd : Byte) (rr : Byte)
  /-- BRCLR n,opr8,rel (R253). -/
  | brclr (n : BitVec 3) (dd : Byte) (rr : Byte)
  /-- BSET n,opr8 (R291). -/
  | bset (n : BitVec 3) (dd : Byte)
  /-- BCLR n,opr8 (R290). -/
  | bclr (n : BitVec 3) (dd : Byte)
  /-- BRA rel (R252). -/
  | bra (rr : Byte)
  /-- BRN rel (R254). -/
  | brn (rr : Byte)
  /-- BHI rel (R239). -/
  | bhi (rr : Byte)
  /-- BLS rel (R245). -/
  | bls (rr : Byte)
  /-- BCC rel (R232). -/
  | bcc (rr : Byte)
  /-- BCS rel (R233). -/
  | bcs (rr : Byte)
  /-- BNE rel (R250). -/
  | bne (rr : Byte)
  /-- BEQ rel (R234). -/
  | beq (rr : Byte)
  /-- BHCC rel (R237). -/
  | bhcc (rr : Byte)
  /-- BHCS rel (R238). -/
  | bhcs (rr : Byte)
  /-- BPL rel (R251). -/
  | bpl (rr : Byte)
  /-- BMI rel (R248). -/
  | bmi (rr : Byte)
  /-- BMC rel (R247). -/
  | bmc (rr : Byte)
  /-- BMS rel (R249). -/
  | bms (rr : Byte)
  /-- BIL rel (R242). -/
  | bil (rr : Byte)
  /-- BIH rel (R241). -/
  | bih (rr : Byte)
  /-- NEG opr8 (R213). -/
  | negDir (dd : Byte)
  /-- CBEQ opr8,rel (R256). -/
  | cbeqDir (dd : Byte) (rr : Byte)
  /-- COM opr8 (R203). -/
  | comDir (dd : Byte)
  /-- LSR opr8 (R210). -/
  | lsrDir (dd : Byte)
  /-- STHX opr8 (R125). -/
  | sthx (dd : Byte)
  /-- ROR opr8 (R220). -/
  | rorDir (dd : Byte)
  /-- ASR opr8 (R168). -/
  | asrDir (dd : Byte)
  /-- LSL opr8 (R207). -/
  | lslDir (dd : Byte)
  /-- ROL opr8 (R217). -/
  | rolDir (dd : Byte)
  /-- DEC opr8 (R175). -/
  | decDir (dd : Byte)
  /-- DBNZ opr8,rel (R259). -/
  | dbnzDir (dd : Byte) (rr : Byte)
  /-- INC opr8 (R179). -/
  | incDir (dd : Byte)
  /-- TST opr8 (R186). -/
  | tstDir (dd : Byte)
  /-- CLR opr8 (R136). -/
  | clrDir (dd : Byte)
  /-- CBEQA #opr8,rel (R257). -/
  | cbeqa (ii : Byte) (rr : Byte)
  /-- LDHX #opr16 (R122). -/
  | ldhxImm (jjkk : Word)
  /-- DBNZA rel (R260). -/
  | dbnza (rr : Byte)
  /-- MOV opr8,opr8 (R129). -/
  | movDd (ss : Byte) (dd : Byte)
  /-- CBEQX #opr8,rel (R258). -/
  | cbeqx (ii : Byte) (rr : Byte)
  /-- LDHX opr8 (R122). -/
  | ldhxDir (dd : Byte)
  /-- DBNZX rel (R261). -/
  | dbnzx (rr : Byte)
  /-- MOV opr8,X+ (R129). -/
  | movDixPlus (ss : Byte)
  /-- NEG opr8,X (R213). -/
  | negIx1 (ff : Byte)
  /-- CBEQ opr8,X+,rel (R256). -/
  | cbeqIx1Plus (ff : Byte) (rr : Byte)
  /-- COM opr8,X (R203). -/
  | comIx1 (ff : Byte)
  /-- LSR opr8,X (R210). -/
  | lsrIx1 (ff : Byte)
  /-- CPHX #opr16 (R172). -/
  | cphxImm (jjkk : Word)
  /-- ROR opr8,X (R220). -/
  | rorIx1 (ff : Byte)
  /-- ASR opr8,X (R168). -/
  | asrIx1 (ff : Byte)
  /-- LSL opr8,X (R207). -/
  | lslIx1 (ff : Byte)
  /-- ROL opr8,X (R217). -/
  | rolIx1 (ff : Byte)
  /-- DEC opr8,X (R175). -/
  | decIx1 (ff : Byte)
  /-- DBNZ opr8,X,rel (R259). -/
  | dbnzIx1 (ff : Byte) (rr : Byte)
  /-- INC opr8,X (R179). -/
  | incIx1 (ff : Byte)
  /-- TST opr8,X (R186). -/
  | tstIx1 (ff : Byte)
  /-- MOV #opr8,opr8 (R129). -/
  | movImd (ii : Byte) (dd : Byte)
  /-- CLR opr8,X (R136). -/
  | clrIx1 (ff : Byte)
  /-- CBEQ X+,rel (R256). -/
  | cbeqIxPlus (rr : Byte)
  /-- CPHX opr8 (R172). -/
  | cphxDir (dd : Byte)
  /-- DBNZ X,rel (R259). -/
  | dbnzIx (rr : Byte)
  /-- MOV X+,opr8 (R129). -/
  | movIxPlusD (dd : Byte)
  /-- BGE rel (R235). -/
  | bge (rr : Byte)
  /-- BLT rel (R246). -/
  | blt (rr : Byte)
  /-- BGT rel (R236). -/
  | bgt (rr : Byte)
  /-- BLE rel (R243). -/
  | ble (rr : Byte)
  /-- SUB #opr8 (R185). -/
  | subImm (ii : Byte)
  /-- CMP #opr8 (R171). -/
  | cmpImm (ii : Byte)
  /-- SBC #opr8 (R184). -/
  | sbcImm (ii : Byte)
  /-- CPX #opr8 (R173). -/
  | cpxImm (ii : Byte)
  /-- AND #opr8 (R201). -/
  | andImm (ii : Byte)
  /-- BIT #opr8 (R202). -/
  | bitImm (ii : Byte)
  /-- LDA #opr8 (R121). -/
  | ldaImm (ii : Byte)
  /-- AIS #opr8 (R163). -/
  | ais (ii : Byte)
  /-- EOR #opr8 (R206). -/
  | eorImm (ii : Byte)
  /-- ADC #opr8 (R161). -/
  | adcImm (ii : Byte)
  /-- ORA #opr8 (R216). -/
  | oraImm (ii : Byte)
  /-- ADD #opr8 (R162). -/
  | addImm (ii : Byte)
  /-- BSR rel (R280). -/
  | bsr (rr : Byte)
  /-- LDX #opr8 (R123). -/
  | ldxImm (ii : Byte)
  /-- AIX #opr8 (R164). -/
  | aix (ii : Byte)
  /-- SUB opr8 (R185). -/
  | subDir (dd : Byte)
  /-- CMP opr8 (R171). -/
  | cmpDir (dd : Byte)
  /-- SBC opr8 (R184). -/
  | sbcDir (dd : Byte)
  /-- CPX opr8 (R173). -/
  | cpxDir (dd : Byte)
  /-- AND opr8 (R201). -/
  | andDir (dd : Byte)
  /-- BIT opr8 (R202). -/
  | bitDir (dd : Byte)
  /-- LDA opr8 (R121). -/
  | ldaDir (dd : Byte)
  /-- STA opr8 (R124). -/
  | staDir (dd : Byte)
  /-- EOR opr8 (R206). -/
  | eorDir (dd : Byte)
  /-- ADC opr8 (R161). -/
  | adcDir (dd : Byte)
  /-- ORA opr8 (R216). -/
  | oraDir (dd : Byte)
  /-- ADD opr8 (R162). -/
  | addDir (dd : Byte)
  /-- JMP opr8 (R231). -/
  | jmpDir (dd : Byte)
  /-- JSR opr8 (R281). -/
  | jsrDir (dd : Byte)
  /-- LDX opr8 (R123). -/
  | ldxDir (dd : Byte)
  /-- STX opr8 (R126). -/
  | stxDir (dd : Byte)
  /-- SUB opr16 (R185). -/
  | subExt (hhll : Word)
  /-- CMP opr16 (R171). -/
  | cmpExt (hhll : Word)
  /-- SBC opr16 (R184). -/
  | sbcExt (hhll : Word)
  /-- CPX opr16 (R173). -/
  | cpxExt (hhll : Word)
  /-- AND opr16 (R201). -/
  | andExt (hhll : Word)
  /-- BIT opr16 (R202). -/
  | bitExt (hhll : Word)
  /-- LDA opr16 (R121). -/
  | ldaExt (hhll : Word)
  /-- STA opr16 (R124). -/
  | staExt (hhll : Word)
  /-- EOR opr16 (R206). -/
  | eorExt (hhll : Word)
  /-- ADC opr16 (R161). -/
  | adcExt (hhll : Word)
  /-- ORA opr16 (R216). -/
  | oraExt (hhll : Word)
  /-- ADD opr16 (R162). -/
  | addExt (hhll : Word)
  /-- JMP opr16 (R231). -/
  | jmpExt (hhll : Word)
  /-- JSR opr16 (R281). -/
  | jsrExt (hhll : Word)
  /-- LDX opr16 (R123). -/
  | ldxExt (hhll : Word)
  /-- STX opr16 (R126). -/
  | stxExt (hhll : Word)
  /-- SUB opr16,X (R185). -/
  | subIx2 (eeff : Word)
  /-- CMP opr16,X (R171). -/
  | cmpIx2 (eeff : Word)
  /-- SBC opr16,X (R184). -/
  | sbcIx2 (eeff : Word)
  /-- CPX opr16,X (R173). -/
  | cpxIx2 (eeff : Word)
  /-- AND opr16,X (R201). -/
  | andIx2 (eeff : Word)
  /-- BIT opr16,X (R202). -/
  | bitIx2 (eeff : Word)
  /-- LDA opr16,X (R121). -/
  | ldaIx2 (eeff : Word)
  /-- STA opr16,X (R124). -/
  | staIx2 (eeff : Word)
  /-- EOR opr16,X (R206). -/
  | eorIx2 (eeff : Word)
  /-- ADC opr16,X (R161). -/
  | adcIx2 (eeff : Word)
  /-- ORA opr16,X (R216). -/
  | oraIx2 (eeff : Word)
  /-- ADD opr16,X (R162). -/
  | addIx2 (eeff : Word)
  /-- JMP opr16,X (R231). -/
  | jmpIx2 (eeff : Word)
  /-- JSR opr16,X (R281). -/
  | jsrIx2 (eeff : Word)
  /-- LDX opr16,X (R123). -/
  | ldxIx2 (eeff : Word)
  /-- STX opr16,X (R126). -/
  | stxIx2 (eeff : Word)
  /-- SUB opr8,X (R185). -/
  | subIx1 (ff : Byte)
  /-- CMP opr8,X (R171). -/
  | cmpIx1 (ff : Byte)
  /-- SBC opr8,X (R184). -/
  | sbcIx1 (ff : Byte)
  /-- CPX opr8,X (R173). -/
  | cpxIx1 (ff : Byte)
  /-- AND opr8,X (R201). -/
  | andIx1 (ff : Byte)
  /-- BIT opr8,X (R202). -/
  | bitIx1 (ff : Byte)
  /-- LDA opr8,X (R121). -/
  | ldaIx1 (ff : Byte)
  /-- STA opr8,X (R124). -/
  | staIx1 (ff : Byte)
  /-- EOR opr8,X (R206). -/
  | eorIx1 (ff : Byte)
  /-- ADC opr8,X (R161). -/
  | adcIx1 (ff : Byte)
  /-- ORA opr8,X (R216). -/
  | oraIx1 (ff : Byte)
  /-- ADD opr8,X (R162). -/
  | addIx1 (ff : Byte)
  /-- JMP opr8,X (R231). -/
  | jmpIx1 (ff : Byte)
  /-- JSR opr8,X (R281). -/
  | jsrIx1 (ff : Byte)
  /-- LDX opr8,X (R123). -/
  | ldxIx1 (ff : Byte)
  /-- STX opr8,X (R126). -/
  | stxIx1 (ff : Byte)
  /-- NEG opr8,SP (R213). -/
  | negSp1 (ff : Byte)
  /-- CBEQ opr8,SP,rel (R256). -/
  | cbeqSp1 (ff : Byte) (rr : Byte)
  /-- COM opr8,SP (R203). -/
  | comSp1 (ff : Byte)
  /-- LSR opr8,SP (R210). -/
  | lsrSp1 (ff : Byte)
  /-- ROR opr8,SP (R220). -/
  | rorSp1 (ff : Byte)
  /-- ASR opr8,SP (R168). -/
  | asrSp1 (ff : Byte)
  /-- LSL opr8,SP (R207). -/
  | lslSp1 (ff : Byte)
  /-- ROL opr8,SP (R217). -/
  | rolSp1 (ff : Byte)
  /-- DEC opr8,SP (R175). -/
  | decSp1 (ff : Byte)
  /-- DBNZ opr8,SP,rel (R259). -/
  | dbnzSp1 (ff : Byte) (rr : Byte)
  /-- INC opr8,SP (R179). -/
  | incSp1 (ff : Byte)
  /-- TST opr8,SP (R186). -/
  | tstSp1 (ff : Byte)
  /-- CLR opr8,SP (R136). -/
  | clrSp1 (ff : Byte)
  /-- SUB opr16,SP (R185). -/
  | subSp2 (eeff : Word)
  /-- CMP opr16,SP (R171). -/
  | cmpSp2 (eeff : Word)
  /-- SBC opr16,SP (R184). -/
  | sbcSp2 (eeff : Word)
  /-- CPX opr16,SP (R173). -/
  | cpxSp2 (eeff : Word)
  /-- AND opr16,SP (R201). -/
  | andSp2 (eeff : Word)
  /-- BIT opr16,SP (R202). -/
  | bitSp2 (eeff : Word)
  /-- LDA opr16,SP (R121). -/
  | ldaSp2 (eeff : Word)
  /-- STA opr16,SP (R124). -/
  | staSp2 (eeff : Word)
  /-- EOR opr16,SP (R206). -/
  | eorSp2 (eeff : Word)
  /-- ADC opr16,SP (R161). -/
  | adcSp2 (eeff : Word)
  /-- ORA opr16,SP (R216). -/
  | oraSp2 (eeff : Word)
  /-- ADD opr16,SP (R162). -/
  | addSp2 (eeff : Word)
  /-- LDX opr16,SP (R123). -/
  | ldxSp2 (eeff : Word)
  /-- STX opr16,SP (R126). -/
  | stxSp2 (eeff : Word)
  /-- SUB opr8,SP (R185). -/
  | subSp1 (ff : Byte)
  /-- CMP opr8,SP (R171). -/
  | cmpSp1 (ff : Byte)
  /-- SBC opr8,SP (R184). -/
  | sbcSp1 (ff : Byte)
  /-- CPX opr8,SP (R173). -/
  | cpxSp1 (ff : Byte)
  /-- AND opr8,SP (R201). -/
  | andSp1 (ff : Byte)
  /-- BIT opr8,SP (R202). -/
  | bitSp1 (ff : Byte)
  /-- LDA opr8,SP (R121). -/
  | ldaSp1 (ff : Byte)
  /-- STA opr8,SP (R124). -/
  | staSp1 (ff : Byte)
  /-- EOR opr8,SP (R206). -/
  | eorSp1 (ff : Byte)
  /-- ADC opr8,SP (R161). -/
  | adcSp1 (ff : Byte)
  /-- ORA opr8,SP (R216). -/
  | oraSp1 (ff : Byte)
  /-- ADD opr8,SP (R162). -/
  | addSp1 (ff : Byte)
  /-- LDX opr8,SP (R123). -/
  | ldxSp1 (ff : Byte)
  /-- STX opr8,SP (R126). -/
  | stxSp1 (ff : Byte)
  /-- The prefix $9E before a byte `b1` that selects no instruction (R103, R104). -/
  | illegalPage2 (b1 : Byte)
  /-- The illegal opcode $32 (R104). -/
  | illegal32
  /-- The illegal opcode $3E (R104). -/
  | illegal3E
  /-- NEGA (R214). -/
  | nega
  /-- MUL (R182). -/
  | mul
  /-- COMA (R204). -/
  | coma
  /-- LSRA (R211). -/
  | lsra
  /-- RORA (R221). -/
  | rora
  /-- ASRA (R169). -/
  | asra
  /-- LSLA (R208). -/
  | lsla
  /-- ROLA (R218). -/
  | rola
  /-- DECA (R176). -/
  | deca
  /-- INCA (R180). -/
  | inca
  /-- TSTA (R187). -/
  | tsta
  /-- CLRA (R137). -/
  | clra
  /-- NEGX (R215). -/
  | negx
  /-- DIV (R178). -/
  | div
  /-- COMX (R205). -/
  | comx
  /-- LSRX (R212). -/
  | lsrx
  /-- RORX (R222). -/
  | rorx
  /-- ASRX (R170). -/
  | asrx
  /-- LSLX (R209). -/
  | lslx
  /-- ROLX (R219). -/
  | rolx
  /-- DECX (R177). -/
  | decx
  /-- INCX (R181). -/
  | incx
  /-- TSTX (R188). -/
  | tstx
  /-- CLRX (R138). -/
  | clrx
  /-- NSA (R183). -/
  | nsa
  /-- NEG ,X (R213). -/
  | negIx
  /-- DAA (R174). -/
  | daa
  /-- COM ,X (R203). -/
  | comIx
  /-- LSR ,X (R210). -/
  | lsrIx
  /-- ROR ,X (R220). -/
  | rorIx
  /-- ASR ,X (R168). -/
  | asrIx
  /-- LSL ,X (R207). -/
  | lslIx
  /-- ROL ,X (R217). -/
  | rolIx
  /-- DEC ,X (R175). -/
  | decIx
  /-- INC ,X (R179). -/
  | incIx
  /-- TST ,X (R186). -/
  | tstIx
  /-- CLR ,X (R136). -/
  | clrIx
  /-- RTI (R282). -/
  | rti
  /-- RTS (R283). -/
  | rts
  /-- The illegal opcode $82 (R104). -/
  | illegal82
  /-- SWI (R295). -/
  | swi
  /-- TAP (R141). -/
  | tap
  /-- TPA (R142). -/
  | tpa
  /-- PULA (R133). -/
  | pula
  /-- PSHA (R130). -/
  | psha
  /-- PULX (R135). -/
  | pulx
  /-- PSHX (R132). -/
  | pshx
  /-- PULH (R134). -/
  | pulh
  /-- PSHH (R131). -/
  | pshh
  /-- CLRH (R139). -/
  | clrh
  /-- The illegal opcode $8D (R104). -/
  | illegal8D
  /-- STOP (R296). -/
  | stop
  /-- WAIT (R297). -/
  | wait
  /-- TXS (R144). -/
  | txs
  /-- TSX (R143). -/
  | tsx
  /-- The illegal opcode $96 (R104). -/
  | illegal96
  /-- TAX (R127). -/
  | tax
  /-- CLC (R299). -/
  | clc
  /-- SEC (R300). -/
  | sec
  /-- CLI (R301). -/
  | cli
  /-- SEI (R302). -/
  | sei
  /-- RSP (R140). -/
  | rsp
  /-- NOP (R298). -/
  | nop
  /-- The prefix $9E with nothing read after it: page 2 (R98, R103). -/
  | page2Prefix
  /-- TXA (R128). -/
  | txa
  /-- The illegal opcode $AC (R104). -/
  | illegalAC
  /-- SUB ,X (R185). -/
  | subIx
  /-- CMP ,X (R171). -/
  | cmpIx
  /-- SBC ,X (R184). -/
  | sbcIx
  /-- CPX ,X (R173). -/
  | cpxIx
  /-- AND ,X (R201). -/
  | andIx
  /-- BIT ,X (R202). -/
  | bitIx
  /-- LDA ,X (R121). -/
  | ldaIx
  /-- STA ,X (R124). -/
  | staIx
  /-- EOR ,X (R206). -/
  | eorIx
  /-- ADC ,X (R161). -/
  | adcIx
  /-- ORA ,X (R216). -/
  | oraIx
  /-- ADD ,X (R162). -/
  | addIx
  /-- JMP ,X (R231). -/
  | jmpIx
  /-- JSR ,X (R281). -/
  | jsrIx
  /-- LDX ,X (R123). -/
  | ldxIx
  /-- STX ,X (R126). -/
  | stxIx
deriving DecidableEq, Repr

end Sys2Proof
end

