-- ==== Sys2Proof/WellFormed.lean ====
section
/-! DEFINITION. Which terms of `Instr` stand for bytes of memory (spec/30_encoding.md R103, R104). -/

namespace Sys2Proof

/-- The 41 bytes that select an instruction after the prefix $9E (R103). -/
def page2Opcodes : List Byte :=
  [0x60#8, 0x61#8, 0x63#8, 0x64#8, 0x66#8, 0x67#8, 0x68#8, 0x69#8, 0x6A#8, 0x6B#8, 0x6C#8,
   0x6D#8, 0x6F#8, 0xD0#8, 0xD1#8, 0xD2#8, 0xD3#8, 0xD4#8, 0xD5#8, 0xD6#8, 0xD7#8, 0xD8#8,
   0xD9#8, 0xDA#8, 0xDB#8, 0xDE#8, 0xDF#8, 0xE0#8, 0xE1#8, 0xE2#8, 0xE3#8, 0xE4#8, 0xE5#8,
   0xE6#8, 0xE7#8, 0xE8#8, 0xE9#8, 0xEA#8, 0xEB#8, 0xEE#8, 0xEF#8]

/-- The prefix alone is no instruction (R98), and an illegal page-2 encoding has a second byte outside the list (R104). Every
other term is well formed: its fields are as wide as the bytes that carry them (R81). -/
def Instr.wellFormed (i : Instr) : Bool :=
  match i with
  | .brset _ _ _ => true
  | .brclr _ _ _ => true
  | .bset _ _ => true
  | .bclr _ _ => true
  | .bra _ => true
  | .brn _ => true
  | .bhi _ => true
  | .bls _ => true
  | .bcc _ => true
  | .bcs _ => true
  | .bne _ => true
  | .beq _ => true
  | .bhcc _ => true
  | .bhcs _ => true
  | .bpl _ => true
  | .bmi _ => true
  | .bmc _ => true
  | .bms _ => true
  | .bil _ => true
  | .bih _ => true
  | .negDir _ => true
  | .cbeqDir _ _ => true
  | .illegal32 => true
  | .comDir _ => true
  | .lsrDir _ => true
  | .sthx _ => true
  | .rorDir _ => true
  | .asrDir _ => true
  | .lslDir _ => true
  | .rolDir _ => true
  | .decDir _ => true
  | .dbnzDir _ _ => true
  | .incDir _ => true
  | .tstDir _ => true
  | .illegal3E => true
  | .clrDir _ => true
  | .nega => true
  | .cbeqa _ _ => true
  | .mul => true
  | .coma => true
  | .lsra => true
  | .ldhxImm _ => true
  | .rora => true
  | .asra => true
  | .lsla => true
  | .rola => true
  | .deca => true
  | .dbnza _ => true
  | .inca => true
  | .tsta => true
  | .movDd _ _ => true
  | .clra => true
  | .negx => true
  | .cbeqx _ _ => true
  | .div => true
  | .comx => true
  | .lsrx => true
  | .ldhxDir _ => true
  | .rorx => true
  | .asrx => true
  | .lslx => true
  | .rolx => true
  | .decx => true
  | .dbnzx _ => true
  | .incx => true
  | .tstx => true
  | .movDixPlus _ => true
  | .clrx => true
  | .negIx1 _ => true
  | .cbeqIx1Plus _ _ => true
  | .nsa => true
  | .comIx1 _ => true
  | .lsrIx1 _ => true
  | .cphxImm _ => true
  | .rorIx1 _ => true
  | .asrIx1 _ => true
  | .lslIx1 _ => true
  | .rolIx1 _ => true
  | .decIx1 _ => true
  | .dbnzIx1 _ _ => true
  | .incIx1 _ => true
  | .tstIx1 _ => true
  | .movImd _ _ => true
  | .clrIx1 _ => true
  | .negIx => true
  | .cbeqIxPlus _ => true
  | .daa => true
  | .comIx => true
  | .lsrIx => true
  | .cphxDir _ => true
  | .rorIx => true
  | .asrIx => true
  | .lslIx => true
  | .rolIx => true
  | .decIx => true
  | .dbnzIx _ => true
  | .incIx => true
  | .tstIx => true
  | .movIxPlusD _ => true
  | .clrIx => true
  | .rti => true
  | .rts => true
  | .illegal82 => true
  | .swi => true
  | .tap => true
  | .tpa => true
  | .pula => true
  | .psha => true
  | .pulx => true
  | .pshx => true
  | .pulh => true
  | .pshh => true
  | .clrh => true
  | .illegal8D => true
  | .stop => true
  | .wait => true
  | .bge _ => true
  | .blt _ => true
  | .bgt _ => true
  | .ble _ => true
  | .txs => true
  | .tsx => true
  | .illegal96 => true
  | .tax => true
  | .clc => true
  | .sec => true
  | .cli => true
  | .sei => true
  | .rsp => true
  | .nop => true
  | .page2Prefix => false
  | .txa => true
  | .subImm _ => true
  | .cmpImm _ => true
  | .sbcImm _ => true
  | .cpxImm _ => true
  | .andImm _ => true
  | .bitImm _ => true
  | .ldaImm _ => true
  | .ais _ => true
  | .eorImm _ => true
  | .adcImm _ => true
  | .oraImm _ => true
  | .addImm _ => true
  | .illegalAC => true
  | .bsr _ => true
  | .ldxImm _ => true
  | .aix _ => true
  | .subDir _ => true
  | .cmpDir _ => true
  | .sbcDir _ => true
  | .cpxDir _ => true
  | .andDir _ => true
  | .bitDir _ => true
  | .ldaDir _ => true
  | .staDir _ => true
  | .eorDir _ => true
  | .adcDir _ => true
  | .oraDir _ => true
  | .addDir _ => true
  | .jmpDir _ => true
  | .jsrDir _ => true
  | .ldxDir _ => true
  | .stxDir _ => true
  | .subExt _ => true
  | .cmpExt _ => true
  | .sbcExt _ => true
  | .cpxExt _ => true
  | .andExt _ => true
  | .bitExt _ => true
  | .ldaExt _ => true
  | .staExt _ => true
  | .eorExt _ => true
  | .adcExt _ => true
  | .oraExt _ => true
  | .addExt _ => true
  | .jmpExt _ => true
  | .jsrExt _ => true
  | .ldxExt _ => true
  | .stxExt _ => true
  | .subIx2 _ => true
  | .cmpIx2 _ => true
  | .sbcIx2 _ => true
  | .cpxIx2 _ => true
  | .andIx2 _ => true
  | .bitIx2 _ => true
  | .ldaIx2 _ => true
  | .staIx2 _ => true
  | .eorIx2 _ => true
  | .adcIx2 _ => true
  | .oraIx2 _ => true
  | .addIx2 _ => true
  | .jmpIx2 _ => true
  | .jsrIx2 _ => true
  | .ldxIx2 _ => true
  | .stxIx2 _ => true
  | .subIx1 _ => true
  | .cmpIx1 _ => true
  | .sbcIx1 _ => true
  | .cpxIx1 _ => true
  | .andIx1 _ => true
  | .bitIx1 _ => true
  | .ldaIx1 _ => true
  | .staIx1 _ => true
  | .eorIx1 _ => true
  | .adcIx1 _ => true
  | .oraIx1 _ => true
  | .addIx1 _ => true
  | .jmpIx1 _ => true
  | .jsrIx1 _ => true
  | .ldxIx1 _ => true
  | .stxIx1 _ => true
  | .subIx => true
  | .cmpIx => true
  | .sbcIx => true
  | .cpxIx => true
  | .andIx => true
  | .bitIx => true
  | .ldaIx => true
  | .staIx => true
  | .eorIx => true
  | .adcIx => true
  | .oraIx => true
  | .addIx => true
  | .jmpIx => true
  | .jsrIx => true
  | .ldxIx => true
  | .stxIx => true
  | .negSp1 _ => true
  | .cbeqSp1 _ _ => true
  | .comSp1 _ => true
  | .lsrSp1 _ => true
  | .rorSp1 _ => true
  | .asrSp1 _ => true
  | .lslSp1 _ => true
  | .rolSp1 _ => true
  | .decSp1 _ => true
  | .dbnzSp1 _ _ => true
  | .incSp1 _ => true
  | .tstSp1 _ => true
  | .clrSp1 _ => true
  | .subSp2 _ => true
  | .cmpSp2 _ => true
  | .sbcSp2 _ => true
  | .cpxSp2 _ => true
  | .andSp2 _ => true
  | .bitSp2 _ => true
  | .ldaSp2 _ => true
  | .staSp2 _ => true
  | .eorSp2 _ => true
  | .adcSp2 _ => true
  | .oraSp2 _ => true
  | .addSp2 _ => true
  | .ldxSp2 _ => true
  | .stxSp2 _ => true
  | .subSp1 _ => true
  | .cmpSp1 _ => true
  | .sbcSp1 _ => true
  | .cpxSp1 _ => true
  | .andSp1 _ => true
  | .bitSp1 _ => true
  | .ldaSp1 _ => true
  | .staSp1 _ => true
  | .eorSp1 _ => true
  | .adcSp1 _ => true
  | .oraSp1 _ => true
  | .addSp1 _ => true
  | .ldxSp1 _ => true
  | .stxSp1 _ => true
  | .illegalPage2 b1 => !page2Opcodes.contains b1

end Sys2Proof
end

