-- ==== Sys2Proof/Decode.lean ====
section
/-! DEFINITION. The decoder and the encoder, both from the opcode map of spec/30_encoding.md R98 to R105, and the reading of
a row of spec/opcode_table.json. -/

namespace Sys2Proof

/-- Why bytes do not decode. -/
inductive DecodeError where
  /-- There is no byte. -/
  | noBytes
  /-- An operand byte that the opcode asks for is missing. -/
  | missingOperand
deriving DecidableEq, Repr

/-- What follows an opcode (R81), and the instruction made of it. -/
inductive Format where
  /-- No operand byte: INH, IX, an illegal opcode. -/
  | op0 (i : Instr)
  /-- One operand byte: IMM8, DIR, IX1, SP1, REL, DIR_BIT, INH_REL, IX_REL, DIX+, IX+D. -/
  | op1 (f : Byte → Instr)
  /-- A 16-bit field, high byte first (R83): EXT, IX2, SP2, IMM16. -/
  | op16 (f : Word → Instr)
  /-- Two operand bytes: DD, IMD, DIR_REL, IMM_REL, IX1_REL, SP1_REL, DIR_BIT_REL. -/
  | op2 (f : Byte → Byte → Instr)

/-- The instruction of a format and the bytes after its opcode. -/
def Format.complete (f : Format) (bs : List Byte) : Except DecodeError (Instr × List Byte) :=
  match f with
  | .op0 i => .ok (i, bs)
  | .op1 g =>
    match bs with
    | a :: rest => .ok (g a, rest)
    | [] => .error .missingOperand
  | .op16 g =>
    match bs with
    | a :: b :: rest => .ok (g (joinBytes a b), rest)
    | [_] => .error .missingOperand
    | [] => .error .missingOperand
  | .op2 g =>
    match bs with
    | a :: b :: rest => .ok (g a b, rest)
    | [_] => .error .missingOperand
    | [] => .error .missingOperand

/-- Opcodes $00 to $0F (R99). -/
def page1Row0 : List Format :=
  [.op2 (.brset 0#3), .op2 (.brclr 0#3), .op2 (.brset 1#3), .op2 (.brclr 1#3), .op2 (.brset 2#3),
   .op2 (.brclr 2#3), .op2 (.brset 3#3), .op2 (.brclr 3#3), .op2 (.brset 4#3), .op2 (.brclr 4#3),
   .op2 (.brset 5#3), .op2 (.brclr 5#3), .op2 (.brset 6#3), .op2 (.brclr 6#3), .op2 (.brset 7#3),
   .op2 (.brclr 7#3)]

/-- Opcodes $10 to $1F (R99). -/
def page1Row1 : List Format :=
  [.op1 (.bset 0#3), .op1 (.bclr 0#3), .op1 (.bset 1#3), .op1 (.bclr 1#3), .op1 (.bset 2#3), .op1 (.bclr 2#3),
   .op1 (.bset 3#3), .op1 (.bclr 3#3), .op1 (.bset 4#3), .op1 (.bclr 4#3), .op1 (.bset 5#3), .op1 (.bclr 5#3),
   .op1 (.bset 6#3), .op1 (.bclr 6#3), .op1 (.bset 7#3), .op1 (.bclr 7#3)]

/-- Opcodes $20 to $2F (R99). -/
def page1Row2 : List Format :=
  [.op1 .bra, .op1 .brn, .op1 .bhi, .op1 .bls, .op1 .bcc, .op1 .bcs, .op1 .bne, .op1 .beq, .op1 .bhcc, .op1 .bhcs,
   .op1 .bpl, .op1 .bmi, .op1 .bmc, .op1 .bms, .op1 .bil, .op1 .bih]

/-- Opcodes $30 to $3F (R100). -/
def page1Row3 : List Format :=
  [.op1 .negDir, .op2 .cbeqDir, .op0 .illegal32, .op1 .comDir, .op1 .lsrDir, .op1 .sthx, .op1 .rorDir,
   .op1 .asrDir, .op1 .lslDir, .op1 .rolDir, .op1 .decDir, .op2 .dbnzDir, .op1 .incDir, .op1 .tstDir,
   .op0 .illegal3E, .op1 .clrDir]

/-- Opcodes $40 to $4F (R100). -/
def page1Row4 : List Format :=
  [.op0 .nega, .op2 .cbeqa, .op0 .mul, .op0 .coma, .op0 .lsra, .op16 .ldhxImm, .op0 .rora, .op0 .asra, .op0 .lsla,
   .op0 .rola, .op0 .deca, .op1 .dbnza, .op0 .inca, .op0 .tsta, .op2 .movDd, .op0 .clra]

/-- Opcodes $50 to $5F (R100). -/
def page1Row5 : List Format :=
  [.op0 .negx, .op2 .cbeqx, .op0 .div, .op0 .comx, .op0 .lsrx, .op1 .ldhxDir, .op0 .rorx, .op0 .asrx, .op0 .lslx,
   .op0 .rolx, .op0 .decx, .op1 .dbnzx, .op0 .incx, .op0 .tstx, .op1 .movDixPlus, .op0 .clrx]

/-- Opcodes $60 to $6F (R100). -/
def page1Row6 : List Format :=
  [.op1 .negIx1, .op2 .cbeqIx1Plus, .op0 .nsa, .op1 .comIx1, .op1 .lsrIx1, .op16 .cphxImm, .op1 .rorIx1,
   .op1 .asrIx1, .op1 .lslIx1, .op1 .rolIx1, .op1 .decIx1, .op2 .dbnzIx1, .op1 .incIx1, .op1 .tstIx1,
   .op2 .movImd, .op1 .clrIx1]

/-- Opcodes $70 to $7F (R100). -/
def page1Row7 : List Format :=
  [.op0 .negIx, .op1 .cbeqIxPlus, .op0 .daa, .op0 .comIx, .op0 .lsrIx, .op1 .cphxDir, .op0 .rorIx, .op0 .asrIx,
   .op0 .lslIx, .op0 .rolIx, .op0 .decIx, .op1 .dbnzIx, .op0 .incIx, .op0 .tstIx, .op1 .movIxPlusD, .op0 .clrIx]

/-- Opcodes $80 to $8F (R101). -/
def page1Row8 : List Format :=
  [.op0 .rti, .op0 .rts, .op0 .illegal82, .op0 .swi, .op0 .tap, .op0 .tpa, .op0 .pula, .op0 .psha, .op0 .pulx,
   .op0 .pshx, .op0 .pulh, .op0 .pshh, .op0 .clrh, .op0 .illegal8D, .op0 .stop, .op0 .wait]

/-- Opcodes $90 to $9F (R101). -/
def page1Row9 : List Format :=
  [.op1 .bge, .op1 .blt, .op1 .bgt, .op1 .ble, .op0 .txs, .op0 .tsx, .op0 .illegal96, .op0 .tax, .op0 .clc,
   .op0 .sec, .op0 .cli, .op0 .sei, .op0 .rsp, .op0 .nop, .op0 .page2Prefix, .op0 .txa]

/-- Opcodes $A0 to $AF (R102). -/
def page1RowA : List Format :=
  [.op1 .subImm, .op1 .cmpImm, .op1 .sbcImm, .op1 .cpxImm, .op1 .andImm, .op1 .bitImm, .op1 .ldaImm, .op1 .ais,
   .op1 .eorImm, .op1 .adcImm, .op1 .oraImm, .op1 .addImm, .op0 .illegalAC, .op1 .bsr, .op1 .ldxImm, .op1 .aix]

/-- Opcodes $B0 to $BF (R102). -/
def page1RowB : List Format :=
  [.op1 .subDir, .op1 .cmpDir, .op1 .sbcDir, .op1 .cpxDir, .op1 .andDir, .op1 .bitDir, .op1 .ldaDir, .op1 .staDir,
   .op1 .eorDir, .op1 .adcDir, .op1 .oraDir, .op1 .addDir, .op1 .jmpDir, .op1 .jsrDir, .op1 .ldxDir, .op1 .stxDir]

/-- Opcodes $C0 to $CF (R102). -/
def page1RowC : List Format :=
  [.op16 .subExt, .op16 .cmpExt, .op16 .sbcExt, .op16 .cpxExt, .op16 .andExt, .op16 .bitExt, .op16 .ldaExt,
   .op16 .staExt, .op16 .eorExt, .op16 .adcExt, .op16 .oraExt, .op16 .addExt, .op16 .jmpExt, .op16 .jsrExt,
   .op16 .ldxExt, .op16 .stxExt]

/-- Opcodes $D0 to $DF (R102). -/
def page1RowD : List Format :=
  [.op16 .subIx2, .op16 .cmpIx2, .op16 .sbcIx2, .op16 .cpxIx2, .op16 .andIx2, .op16 .bitIx2, .op16 .ldaIx2,
   .op16 .staIx2, .op16 .eorIx2, .op16 .adcIx2, .op16 .oraIx2, .op16 .addIx2, .op16 .jmpIx2, .op16 .jsrIx2,
   .op16 .ldxIx2, .op16 .stxIx2]

/-- Opcodes $E0 to $EF (R102). -/
def page1RowE : List Format :=
  [.op1 .subIx1, .op1 .cmpIx1, .op1 .sbcIx1, .op1 .cpxIx1, .op1 .andIx1, .op1 .bitIx1, .op1 .ldaIx1, .op1 .staIx1,
   .op1 .eorIx1, .op1 .adcIx1, .op1 .oraIx1, .op1 .addIx1, .op1 .jmpIx1, .op1 .jsrIx1, .op1 .ldxIx1, .op1 .stxIx1]

/-- Opcodes $F0 to $FF (R102). -/
def page1RowF : List Format :=
  [.op0 .subIx, .op0 .cmpIx, .op0 .sbcIx, .op0 .cpxIx, .op0 .andIx, .op0 .bitIx, .op0 .ldaIx, .op0 .staIx,
   .op0 .eorIx, .op0 .adcIx, .op0 .oraIx, .op0 .addIx, .op0 .jmpIx, .op0 .jsrIx, .op0 .ldxIx, .op0 .stxIx]

/-- Page 1 of the opcode map (R98): the 256 first bytes. -/
def page1Table : List Format :=
  page1Row0 ++ page1Row1 ++ page1Row2 ++ page1Row3 ++ page1Row4 ++ page1Row5 ++ page1Row6 ++ page1Row7 ++
  page1Row8 ++ page1Row9 ++ page1RowA ++ page1RowB ++ page1RowC ++ page1RowD ++ page1RowE ++ page1RowF

/-- The format a first byte selects (R105); the prefix $9E is looked at before. -/
def page1 (b : Byte) : Format := page1Table.getD b.toNat (.op0 .page2Prefix)

/-- Page 2, $9E $6x (R103). -/
def page2Row6 : List (Byte × Format) :=
  [(0x60#8, .op1 .negSp1), (0x61#8, .op2 .cbeqSp1), (0x63#8, .op1 .comSp1), (0x64#8, .op1 .lsrSp1),
   (0x66#8, .op1 .rorSp1), (0x67#8, .op1 .asrSp1), (0x68#8, .op1 .lslSp1), (0x69#8, .op1 .rolSp1),
   (0x6A#8, .op1 .decSp1), (0x6B#8, .op2 .dbnzSp1), (0x6C#8, .op1 .incSp1), (0x6D#8, .op1 .tstSp1),
   (0x6F#8, .op1 .clrSp1)]

/-- Page 2, $9E $Dx (R103). -/
def page2RowD : List (Byte × Format) :=
  [(0xD0#8, .op16 .subSp2), (0xD1#8, .op16 .cmpSp2), (0xD2#8, .op16 .sbcSp2), (0xD3#8, .op16 .cpxSp2),
   (0xD4#8, .op16 .andSp2), (0xD5#8, .op16 .bitSp2), (0xD6#8, .op16 .ldaSp2), (0xD7#8, .op16 .staSp2),
   (0xD8#8, .op16 .eorSp2), (0xD9#8, .op16 .adcSp2), (0xDA#8, .op16 .oraSp2), (0xDB#8, .op16 .addSp2),
   (0xDE#8, .op16 .ldxSp2), (0xDF#8, .op16 .stxSp2)]

/-- Page 2, $9E $Ex (R103). -/
def page2RowE : List (Byte × Format) :=
  [(0xE0#8, .op1 .subSp1), (0xE1#8, .op1 .cmpSp1), (0xE2#8, .op1 .sbcSp1), (0xE3#8, .op1 .cpxSp1),
   (0xE4#8, .op1 .andSp1), (0xE5#8, .op1 .bitSp1), (0xE6#8, .op1 .ldaSp1), (0xE7#8, .op1 .staSp1),
   (0xE8#8, .op1 .eorSp1), (0xE9#8, .op1 .adcSp1), (0xEA#8, .op1 .oraSp1), (0xEB#8, .op1 .addSp1),
   (0xEE#8, .op1 .ldxSp1), (0xEF#8, .op1 .stxSp1)]

/-- The format a byte after the prefix $9E selects; none for an illegal one (R103, R104). -/
def page2 (b : Byte) : Option Format := (page2Row6 ++ page2RowD ++ page2RowE).lookup b

/-- The decoder (R105): the first instruction of a list of bytes, and the bytes after it. -/
def decode (bs : List Byte) : Except DecodeError (Instr × List Byte) :=
  match bs with
  | [] => .error .noBytes
  | b0 :: rest =>
    if b0 = 0x9E#8 then
      match rest with
      | [] => .ok (.page2Prefix, [])
      | b1 :: rest =>
        match page2 b1 with
        | some f => f.complete rest
        | none => .ok (.illegalPage2 b1, rest)
    else (page1 b0).complete rest

/-- The opcode byte of a bit instruction: the bit number in bits 3..1 (R85). -/
def bitOpcode (base : Byte) (n : BitVec 3) : Byte := base ||| (n.setWidth 8 <<< 1)

/-- The encoder: the bytes of an instruction in memory order (R81, R99 to R104). -/
def encode (i : Instr) : List Byte :=
  match i with
  | .brset n dd rr => [bitOpcode 0x00#8 n, dd, rr]
  | .brclr n dd rr => [bitOpcode 0x01#8 n, dd, rr]
  | .bset n dd => [bitOpcode 0x10#8 n, dd]
  | .bclr n dd => [bitOpcode 0x11#8 n, dd]
  | .bra rr => [0x20#8, rr]
  | .brn rr => [0x21#8, rr]
  | .bhi rr => [0x22#8, rr]
  | .bls rr => [0x23#8, rr]
  | .bcc rr => [0x24#8, rr]
  | .bcs rr => [0x25#8, rr]
  | .bne rr => [0x26#8, rr]
  | .beq rr => [0x27#8, rr]
  | .bhcc rr => [0x28#8, rr]
  | .bhcs rr => [0x29#8, rr]
  | .bpl rr => [0x2A#8, rr]
  | .bmi rr => [0x2B#8, rr]
  | .bmc rr => [0x2C#8, rr]
  | .bms rr => [0x2D#8, rr]
  | .bil rr => [0x2E#8, rr]
  | .bih rr => [0x2F#8, rr]
  | .negDir dd => [0x30#8, dd]
  | .cbeqDir dd rr => [0x31#8, dd, rr]
  | .illegal32 => [0x32#8]
  | .comDir dd => [0x33#8, dd]
  | .lsrDir dd => [0x34#8, dd]
  | .sthx dd => [0x35#8, dd]
  | .rorDir dd => [0x36#8, dd]
  | .asrDir dd => [0x37#8, dd]
  | .lslDir dd => [0x38#8, dd]
  | .rolDir dd => [0x39#8, dd]
  | .decDir dd => [0x3A#8, dd]
  | .dbnzDir dd rr => [0x3B#8, dd, rr]
  | .incDir dd => [0x3C#8, dd]
  | .tstDir dd => [0x3D#8, dd]
  | .illegal3E => [0x3E#8]
  | .clrDir dd => [0x3F#8, dd]
  | .nega => [0x40#8]
  | .cbeqa ii rr => [0x41#8, ii, rr]
  | .mul => [0x42#8]
  | .coma => [0x43#8]
  | .lsra => [0x44#8]
  | .ldhxImm jjkk => [0x45#8, hiByte jjkk, loByte jjkk]
  | .rora => [0x46#8]
  | .asra => [0x47#8]
  | .lsla => [0x48#8]
  | .rola => [0x49#8]
  | .deca => [0x4A#8]
  | .dbnza rr => [0x4B#8, rr]
  | .inca => [0x4C#8]
  | .tsta => [0x4D#8]
  | .movDd ss dd => [0x4E#8, ss, dd]
  | .clra => [0x4F#8]
  | .negx => [0x50#8]
  | .cbeqx ii rr => [0x51#8, ii, rr]
  | .div => [0x52#8]
  | .comx => [0x53#8]
  | .lsrx => [0x54#8]
  | .ldhxDir dd => [0x55#8, dd]
  | .rorx => [0x56#8]
  | .asrx => [0x57#8]
  | .lslx => [0x58#8]
  | .rolx => [0x59#8]
  | .decx => [0x5A#8]
  | .dbnzx rr => [0x5B#8, rr]
  | .incx => [0x5C#8]
  | .tstx => [0x5D#8]
  | .movDixPlus ss => [0x5E#8, ss]
  | .clrx => [0x5F#8]
  | .negIx1 ff => [0x60#8, ff]
  | .cbeqIx1Plus ff rr => [0x61#8, ff, rr]
  | .nsa => [0x62#8]
  | .comIx1 ff => [0x63#8, ff]
  | .lsrIx1 ff => [0x64#8, ff]
  | .cphxImm jjkk => [0x65#8, hiByte jjkk, loByte jjkk]
  | .rorIx1 ff => [0x66#8, ff]
  | .asrIx1 ff => [0x67#8, ff]
  | .lslIx1 ff => [0x68#8, ff]
  | .rolIx1 ff => [0x69#8, ff]
  | .decIx1 ff => [0x6A#8, ff]
  | .dbnzIx1 ff rr => [0x6B#8, ff, rr]
  | .incIx1 ff => [0x6C#8, ff]
  | .tstIx1 ff => [0x6D#8, ff]
  | .movImd ii dd => [0x6E#8, ii, dd]
  | .clrIx1 ff => [0x6F#8, ff]
  | .negIx => [0x70#8]
  | .cbeqIxPlus rr => [0x71#8, rr]
  | .daa => [0x72#8]
  | .comIx => [0x73#8]
  | .lsrIx => [0x74#8]
  | .cphxDir dd => [0x75#8, dd]
  | .rorIx => [0x76#8]
  | .asrIx => [0x77#8]
  | .lslIx => [0x78#8]
  | .rolIx => [0x79#8]
  | .decIx => [0x7A#8]
  | .dbnzIx rr => [0x7B#8, rr]
  | .incIx => [0x7C#8]
  | .tstIx => [0x7D#8]
  | .movIxPlusD dd => [0x7E#8, dd]
  | .clrIx => [0x7F#8]
  | .rti => [0x80#8]
  | .rts => [0x81#8]
  | .illegal82 => [0x82#8]
  | .swi => [0x83#8]
  | .tap => [0x84#8]
  | .tpa => [0x85#8]
  | .pula => [0x86#8]
  | .psha => [0x87#8]
  | .pulx => [0x88#8]
  | .pshx => [0x89#8]
  | .pulh => [0x8A#8]
  | .pshh => [0x8B#8]
  | .clrh => [0x8C#8]
  | .illegal8D => [0x8D#8]
  | .stop => [0x8E#8]
  | .wait => [0x8F#8]
  | .bge rr => [0x90#8, rr]
  | .blt rr => [0x91#8, rr]
  | .bgt rr => [0x92#8, rr]
  | .ble rr => [0x93#8, rr]
  | .txs => [0x94#8]
  | .tsx => [0x95#8]
  | .illegal96 => [0x96#8]
  | .tax => [0x97#8]
  | .clc => [0x98#8]
  | .sec => [0x99#8]
  | .cli => [0x9A#8]
  | .sei => [0x9B#8]
  | .rsp => [0x9C#8]
  | .nop => [0x9D#8]
  | .page2Prefix => [0x9E#8]
  | .txa => [0x9F#8]
  | .subImm ii => [0xA0#8, ii]
  | .cmpImm ii => [0xA1#8, ii]
  | .sbcImm ii => [0xA2#8, ii]
  | .cpxImm ii => [0xA3#8, ii]
  | .andImm ii => [0xA4#8, ii]
  | .bitImm ii => [0xA5#8, ii]
  | .ldaImm ii => [0xA6#8, ii]
  | .ais ii => [0xA7#8, ii]
  | .eorImm ii => [0xA8#8, ii]
  | .adcImm ii => [0xA9#8, ii]
  | .oraImm ii => [0xAA#8, ii]
  | .addImm ii => [0xAB#8, ii]
  | .illegalAC => [0xAC#8]
  | .bsr rr => [0xAD#8, rr]
  | .ldxImm ii => [0xAE#8, ii]
  | .aix ii => [0xAF#8, ii]
  | .subDir dd => [0xB0#8, dd]
  | .cmpDir dd => [0xB1#8, dd]
  | .sbcDir dd => [0xB2#8, dd]
  | .cpxDir dd => [0xB3#8, dd]
  | .andDir dd => [0xB4#8, dd]
  | .bitDir dd => [0xB5#8, dd]
  | .ldaDir dd => [0xB6#8, dd]
  | .staDir dd => [0xB7#8, dd]
  | .eorDir dd => [0xB8#8, dd]
  | .adcDir dd => [0xB9#8, dd]
  | .oraDir dd => [0xBA#8, dd]
  | .addDir dd => [0xBB#8, dd]
  | .jmpDir dd => [0xBC#8, dd]
  | .jsrDir dd => [0xBD#8, dd]
  | .ldxDir dd => [0xBE#8, dd]
  | .stxDir dd => [0xBF#8, dd]
  | .subExt hhll => [0xC0#8, hiByte hhll, loByte hhll]
  | .cmpExt hhll => [0xC1#8, hiByte hhll, loByte hhll]
  | .sbcExt hhll => [0xC2#8, hiByte hhll, loByte hhll]
  | .cpxExt hhll => [0xC3#8, hiByte hhll, loByte hhll]
  | .andExt hhll => [0xC4#8, hiByte hhll, loByte hhll]
  | .bitExt hhll => [0xC5#8, hiByte hhll, loByte hhll]
  | .ldaExt hhll => [0xC6#8, hiByte hhll, loByte hhll]
  | .staExt hhll => [0xC7#8, hiByte hhll, loByte hhll]
  | .eorExt hhll => [0xC8#8, hiByte hhll, loByte hhll]
  | .adcExt hhll => [0xC9#8, hiByte hhll, loByte hhll]
  | .oraExt hhll => [0xCA#8, hiByte hhll, loByte hhll]
  | .addExt hhll => [0xCB#8, hiByte hhll, loByte hhll]
  | .jmpExt hhll => [0xCC#8, hiByte hhll, loByte hhll]
  | .jsrExt hhll => [0xCD#8, hiByte hhll, loByte hhll]
  | .ldxExt hhll => [0xCE#8, hiByte hhll, loByte hhll]
  | .stxExt hhll => [0xCF#8, hiByte hhll, loByte hhll]
  | .subIx2 eeff => [0xD0#8, hiByte eeff, loByte eeff]
  | .cmpIx2 eeff => [0xD1#8, hiByte eeff, loByte eeff]
  | .sbcIx2 eeff => [0xD2#8, hiByte eeff, loByte eeff]
  | .cpxIx2 eeff => [0xD3#8, hiByte eeff, loByte eeff]
  | .andIx2 eeff => [0xD4#8, hiByte eeff, loByte eeff]
  | .bitIx2 eeff => [0xD5#8, hiByte eeff, loByte eeff]
  | .ldaIx2 eeff => [0xD6#8, hiByte eeff, loByte eeff]
  | .staIx2 eeff => [0xD7#8, hiByte eeff, loByte eeff]
  | .eorIx2 eeff => [0xD8#8, hiByte eeff, loByte eeff]
  | .adcIx2 eeff => [0xD9#8, hiByte eeff, loByte eeff]
  | .oraIx2 eeff => [0xDA#8, hiByte eeff, loByte eeff]
  | .addIx2 eeff => [0xDB#8, hiByte eeff, loByte eeff]
  | .jmpIx2 eeff => [0xDC#8, hiByte eeff, loByte eeff]
  | .jsrIx2 eeff => [0xDD#8, hiByte eeff, loByte eeff]
  | .ldxIx2 eeff => [0xDE#8, hiByte eeff, loByte eeff]
  | .stxIx2 eeff => [0xDF#8, hiByte eeff, loByte eeff]
  | .subIx1 ff => [0xE0#8, ff]
  | .cmpIx1 ff => [0xE1#8, ff]
  | .sbcIx1 ff => [0xE2#8, ff]
  | .cpxIx1 ff => [0xE3#8, ff]
  | .andIx1 ff => [0xE4#8, ff]
  | .bitIx1 ff => [0xE5#8, ff]
  | .ldaIx1 ff => [0xE6#8, ff]
  | .staIx1 ff => [0xE7#8, ff]
  | .eorIx1 ff => [0xE8#8, ff]
  | .adcIx1 ff => [0xE9#8, ff]
  | .oraIx1 ff => [0xEA#8, ff]
  | .addIx1 ff => [0xEB#8, ff]
  | .jmpIx1 ff => [0xEC#8, ff]
  | .jsrIx1 ff => [0xED#8, ff]
  | .ldxIx1 ff => [0xEE#8, ff]
  | .stxIx1 ff => [0xEF#8, ff]
  | .subIx => [0xF0#8]
  | .cmpIx => [0xF1#8]
  | .sbcIx => [0xF2#8]
  | .cpxIx => [0xF3#8]
  | .andIx => [0xF4#8]
  | .bitIx => [0xF5#8]
  | .ldaIx => [0xF6#8]
  | .staIx => [0xF7#8]
  | .eorIx => [0xF8#8]
  | .adcIx => [0xF9#8]
  | .oraIx => [0xFA#8]
  | .addIx => [0xFB#8]
  | .jmpIx => [0xFC#8]
  | .jsrIx => [0xFD#8]
  | .ldxIx => [0xFE#8]
  | .stxIx => [0xFF#8]
  | .negSp1 ff => [0x9E#8, 0x60#8, ff]
  | .cbeqSp1 ff rr => [0x9E#8, 0x61#8, ff, rr]
  | .comSp1 ff => [0x9E#8, 0x63#8, ff]
  | .lsrSp1 ff => [0x9E#8, 0x64#8, ff]
  | .rorSp1 ff => [0x9E#8, 0x66#8, ff]
  | .asrSp1 ff => [0x9E#8, 0x67#8, ff]
  | .lslSp1 ff => [0x9E#8, 0x68#8, ff]
  | .rolSp1 ff => [0x9E#8, 0x69#8, ff]
  | .decSp1 ff => [0x9E#8, 0x6A#8, ff]
  | .dbnzSp1 ff rr => [0x9E#8, 0x6B#8, ff, rr]
  | .incSp1 ff => [0x9E#8, 0x6C#8, ff]
  | .tstSp1 ff => [0x9E#8, 0x6D#8, ff]
  | .clrSp1 ff => [0x9E#8, 0x6F#8, ff]
  | .subSp2 eeff => [0x9E#8, 0xD0#8, hiByte eeff, loByte eeff]
  | .cmpSp2 eeff => [0x9E#8, 0xD1#8, hiByte eeff, loByte eeff]
  | .sbcSp2 eeff => [0x9E#8, 0xD2#8, hiByte eeff, loByte eeff]
  | .cpxSp2 eeff => [0x9E#8, 0xD3#8, hiByte eeff, loByte eeff]
  | .andSp2 eeff => [0x9E#8, 0xD4#8, hiByte eeff, loByte eeff]
  | .bitSp2 eeff => [0x9E#8, 0xD5#8, hiByte eeff, loByte eeff]
  | .ldaSp2 eeff => [0x9E#8, 0xD6#8, hiByte eeff, loByte eeff]
  | .staSp2 eeff => [0x9E#8, 0xD7#8, hiByte eeff, loByte eeff]
  | .eorSp2 eeff => [0x9E#8, 0xD8#8, hiByte eeff, loByte eeff]
  | .adcSp2 eeff => [0x9E#8, 0xD9#8, hiByte eeff, loByte eeff]
  | .oraSp2 eeff => [0x9E#8, 0xDA#8, hiByte eeff, loByte eeff]
  | .addSp2 eeff => [0x9E#8, 0xDB#8, hiByte eeff, loByte eeff]
  | .ldxSp2 eeff => [0x9E#8, 0xDE#8, hiByte eeff, loByte eeff]
  | .stxSp2 eeff => [0x9E#8, 0xDF#8, hiByte eeff, loByte eeff]
  | .subSp1 ff => [0x9E#8, 0xE0#8, ff]
  | .cmpSp1 ff => [0x9E#8, 0xE1#8, ff]
  | .sbcSp1 ff => [0x9E#8, 0xE2#8, ff]
  | .cpxSp1 ff => [0x9E#8, 0xE3#8, ff]
  | .andSp1 ff => [0x9E#8, 0xE4#8, ff]
  | .bitSp1 ff => [0x9E#8, 0xE5#8, ff]
  | .ldaSp1 ff => [0x9E#8, 0xE6#8, ff]
  | .staSp1 ff => [0x9E#8, 0xE7#8, ff]
  | .eorSp1 ff => [0x9E#8, 0xE8#8, ff]
  | .adcSp1 ff => [0x9E#8, 0xE9#8, ff]
  | .oraSp1 ff => [0x9E#8, 0xEA#8, ff]
  | .addSp1 ff => [0x9E#8, 0xEB#8, ff]
  | .ldxSp1 ff => [0x9E#8, 0xEE#8, ff]
  | .stxSp1 ff => [0x9E#8, 0xEF#8, ff]
  | .illegalPage2 b1 => [0x9E#8, b1]

/-- How many bytes an instruction takes (R81, R105). -/
def Instr.length (i : Instr) : Nat := (encode i).length

/-- The bytes of a word numbered as spec/opcode_table.json numbers it: the first byte lowest, `count` of them. -/
def littleBytes (w : Nat) : Nat → List Byte
  | 0 => []
  | n + 1 => BitVec.ofNat 8 w :: littleBytes (w / 256) n

/-- The bytes of a table word in memory order. The table writes its two-byte rows with the prefix as the higher byte (9Exx):
such a word has the prefix first (log 29). -/
def tableBytes (nbits w : Nat) : List Byte :=
  match littleBytes w (nbits / 8) with
  | b0 :: b1 :: rest => if b1 = 0x9E#8 ∧ b0 ≠ 0x9E#8 then b1 :: b0 :: rest else b0 :: b1 :: rest
  | [b0] => [b0]
  | [] => []

/-- What the decoder reads from a table word; the operand bytes above `nbits` are 0. -/
def decodeTableWord (nbits w : Nat) : Option Instr :=
  match decode (tableBytes nbits w) with
  | .ok (i, _) => some i
  | .error .noBytes => none
  | .error .missingOperand =>
    match decode (tableBytes nbits w ++ [0x00#8, 0x00#8, 0x00#8]) with
    | .ok (i, _) => some i
    | .error _ => none

end Sys2Proof
end

