-- ==== Sys2Proof/Machine/Fetch.lean ====
section
/-! DEFINITION. Fetching one instruction (spec/10_state.md R24, spec/30_encoding.md R80, R105, spec/20_memory.md R59, R67). -/

namespace Sys2Proof.Machine

/-- The operand bytes of a format are read from `a` on, in ascending order (R80, R83); then `k` gets the instruction. -/
def State.withOperandBytes (s : State) (f : Format) (a : Word) (k : Instr → State → Out) : Out :=
  match f with
  | .op0 i => k i s
  | .op1 g => s.withRead a fun v s => k (g v) s
  | .op16 g => s.withRead16 a fun v s => k (g v) s
  | .op2 g => s.withRead a fun v s => s.withRead (a + 1) fun w s => k (g v w) s

/-- The instruction whose opcode byte stands at PC, an address the opcode fetch may use; then `k`. The opcode maps are the
decoder's (R105). -/
def State.withInstr (s : State) (k : Instr → State → Out) : Out :=
  let b0 := s.mem.read s.pc.toNat
  if b0 = 0x9E#8 then
    s.withRead (s.pc + 1) fun b1 t =>
      match page2 b1 with
      | some f => t.withOperandBytes f (s.pc + 2) k
      | none => k (.illegalPage2 b1) t
  else s.withOperandBytes (page1 b0) (s.pc + 1) k

/-- The addresses of the `n` bytes from `a` on (R63). -/
def addressesFrom (a : Word) : Nat → List Word
  | 0 => []
  | n + 1 => a :: addressesFrom (a + 1) n

/-- Whether the instruction before changed a byte of the instruction of `n` bytes at PC (R67, D6). -/
def State.fetchStale (s : State) (n : Nat) : Bool := (addressesFrom s.pc n).any fun a => s.justStored.contains a

/-- The state in which an instruction of `n` bytes runs: PC is past it (R24, D30), and what held for it alone is over: the
records of stored and of written bytes (R67, R311), the hold after a CLI (R301), the pass of the instruction a break displaced (R347). -/
def State.begin (s : State) (n : Nat) : State :=
  { s with
    pc := s.pc + BitVec.ofNat 16 n
    justStored := []
    written := []
    irqHold := false
    brk := { s.brk with phase := if s.brk.phase = .returned then .idle else s.brk.phase } }

end Sys2Proof.Machine
end

