-- ==== Sys2Proof/Machine/Environment.lean ====
section
/-! DEFINITION. What happens at an instruction boundary before it is worked off: the device agents act, and the monitor's
host sends a command (spec/20_memory.md R64, spec/60_exceptions.md R358, R359). -/

namespace Sys2Proof.Machine

/-- The CPU runs in monitor mode with PC in the monitor ROM (R51, R357). -/
def State.inMonitorRom (s : State) : Bool :=
  decide (s.mode = .monitor) && decide (s.run = .running) && decide (0xFE10 ≤ s.pc.toNat) && decide (s.pc.toNat < 0xFFB0)

/-- The CPU is in the monitor's command loop (R358): it runs in monitor mode, in the monitor ROM, and the last entry
whose RUN has not come has both its SWI and its PSHH behind it, and not at the PULH and RTI of a RUN (DEDUCED, log 39). -/
def State.inCommandLoop (s : State) : Bool :=
  s.inMonitorRom && decide (s.link.entries.head? = some .made) && decide (s.pc.toNat ≠ monitorRunAt) &&
    decide (s.pc.toNat ≠ monitorRunAt + 1)

/-- The monitor hears what the host sends: after a power-on the eight security bytes once and nothing before them (R313,
R359), then a command in the command loop (R358). -/
def State.hears (s : State) (c : HostCommand) : Bool :=
  match c with
  | .securityKey _ => s.inMonitorRom && !s.sim.securityDone
  | .read _ => s.inCommandLoop && s.sim.securityDone
  | .write _ _ => s.inCommandLoop && s.sim.securityDone
  | .readNext => s.inCommandLoop && s.sim.securityDone
  | .writeNext _ => s.inCommandLoop && s.sim.securityDone
  | .readSp => s.inCommandLoop && s.sim.securityDone
  | .run => s.inCommandLoop && s.sim.securityDone

/-- What the host sends: one command at a time waits to be served (R358, log 39). -/
def State.hostSends (s : State) (c : HostCommand) : State :=
  if s.link.command = none ∧ s.hears c = true then s.setLink { s.link with command := some c } else s

/-- One event of the environment at a boundary. -/
def State.deliver (s : State) (e : EnvEvent) : State :=
  match e with
  | .host c => s.hostSends c
  | .powerOn => s.agentActs .powerOn
  | .resetPin => s.agentActs .resetPin
  | .forceBreak => s.agentActs .forceBreak
  | .pins pta ptb vtst => s.agentActs (.pins pta ptb vtst)
  | .analog a0 a1 a2 a3 => s.agentActs (.analog a0 a1 a2 a3)
  | .supply low => s.agentActs (.supply low)
  | .clocks n => s.agentActs (.clocks n)
  | .modules m => s.agentActs (.modules m)
  | .adcSample => s.agentActs .adcSample
  | .adcDone => s.agentActs .adcDone
  | .autoWake => s.agentActs .autoWake

/-- The batch of this boundary lands (R66, D14). -/
def State.takeInputs (s : State) : State :=
  match s.inputs with
  | [] => s
  | batch :: later => { batch.foldl State.deliver s with inputs := later }

end Sys2Proof.Machine
end

