-- ==== Sys2Proof/Machine/Monitor.lean ====
section
/-! DEFINITION. The monitor of spec/60_exceptions.md R358: its entry by SWI and PSHH, and the commands of its host, which its
own instructions carry out, so that their accesses are the CPU's (spec/20_memory.md R58 to R60, R70). -/

namespace Sys2Proof.Machine

/-- The entries to the monitor as the instruction `i` in mode `m` takes them further: SWI begins one, and the next PSHH ends the
last one begun. An entry that a break cut in two waits below the break's own until RUN has taken that one back (R358, log 39). -/
def HostLink.follow (l : HostLink) (m : Mode) (i : Instr) : HostLink :=
  if m = .monitor ∧ i = .swi then { l with entries := .begun :: l.entries }
  else if l.entries.head? = some .begun ∧ i = .pshh then { l with entries := .made :: l.entries.tail }
  else l

/-- The eight bytes at $FFF6 to $FFFD (R359). -/
def State.securityBytes (s : State) : List Byte :=
  [s.mem.read 0xFFF6, s.mem.read 0xFFF7, s.mem.read 0xFFF8, s.mem.read 0xFFF9,
   s.mem.read 0xFFFA, s.mem.read 0xFFFB, s.mem.read 0xFFFC, s.mem.read 0xFFFD]

/-- The monitor reads a byte for its host, then `k`: a read of the CPU's (R58, R59), but of FLASH before the security bytes
have matched a free value (R359). -/
def State.withHostRead (s : State) (a : Word) (k : Byte → State → Out) : Out :=
  if region s.cfg a.toNat = .flash ∧ s.sim.monitorUnlocked = false then
    k (s.readPart 0x00#8 0x00#8).1 (s.readPart 0x00#8 0x00#8).2
  else s.withRead a k

/-- The monitor writes a byte for its host, the last address accessed becoming `a`: a write of the CPU's (R58 to R60, R70).
It is no store of the instruction right before the next one (R67). -/
def State.hostWrite (s : State) (a : Word) (v : Byte) : Out :=
  s.withWrite a v fun t => .next ((t.setLink { t.link with last := a }).setJustStored [])

/-- A command of the host is served, by instructions of the monitor's loop (R358): what held for the one instruction before is
over. READSP answers the high byte first (DESIGN CHOICE, log 39). RUN sends the CPU to the PULH and RTI in the monitor ROM,
which the coming steps execute. The security bytes are compared with FLASH (R359). -/
def State.serveHost (s : State) (c : HostCommand) : Out :=
  let s := (s.begin 0).setLink { s.link with command := none }
  match c with
  | .read a => s.withHostRead a fun v t => .next (t.setLink { t.link with last := a, answer := [v] })
  | .write a v => s.hostWrite a v
  | .readNext =>
    s.withHostRead (s.link.last + 1) fun v t =>
    t.withHostRead (s.link.last + 2) fun w t =>
    .next (t.setLink { t.link with last := s.link.last + 2, answer := [v, w] })
  | .writeNext v => s.hostWrite (s.link.last + 1) v
  | .readSp => .next (s.setLink { s.link with answer := [hiByte s.sp, loByte s.sp] })
  | .run => .next ((s.setLink { s.link with entries := s.link.entries.tail }).setPc (BitVec.ofNat 16 monitorRunAt))
  | .securityKey key =>
    .next (s.setSim { s.sim with securityDone := true, monitorUnlocked := key == s.securityBytes })

/-- The command that is served at this boundary in place of the next instruction: one has come, and the CPU is where the
monitor hears it (R358). -/
def State.dueCommand (s : State) : Option HostCommand := s.link.command.filter fun c => s.hears c

end Sys2Proof.Machine
end

