-- ==== Sys2Proof/Machine/Boundary.lean ====
section
/-! DEFINITION. The instruction boundary (spec/60_exceptions.md R326, R335, R346, R350): a reset, else a break, else an
interrupt, else nothing in WAIT and STOP, else the next instruction, or in the monitor's command loop a command (R358). -/

namespace Sys2Proof.Machine

/-- The instruction at PC is fetched and executed, unless the instruction before changed one of its bytes (R67, D6); an entry to
the monitor is followed (R358). -/
def State.runAtPc (s : State) : Out :=
  s.withInstr fun i t => if s.fetchStale i.length then .refused (.storeIntoNext s.pc) else
    exec i ((t.begin i.length).setLink (t.link.follow t.mode i))

/-- The next instruction, or what its opcode fetch causes (R59, R317, R326). -/
def State.executeNext (s : State) : Out :=
  match region s.cfg s.pc.toNat with
  | .unimplemented => s.raiseReset .ilad
  | .reserved => .refused (.reservedFetch s.pc)
  | .device => .refused (.deviceFetch s.pc)
  | .ram => s.runAtPc
  | .rom => s.runAtPc
  | .flash => s.runAtPc

/-- Whether a break is requested at this boundary (R346): by BRKA or the environment, or because the comparison is enabled
and PC equals the break address while an instruction would be fetched there. -/
def State.breakPending (s : State) : Bool :=
  s.brk.request ||
    (s.brk.enable && decide (s.brk.phase = .idle) && decide (s.run = .running) && decide (s.pc = s.brk.addr))

/-- The break: the SWI sequence with PC as it is (R346), through the SWI vector of the mode (R357), in monitor mode the
beginning of an entry to the monitor (R358). -/
def State.enterBreak (s : State) : Out :=
  (s.setWritten []).withException s.mode.swiVector fun t =>
    .next (((t.setBrk { t.brk with request := false, phase := .serving }).setLink (t.link.follow t.mode .swi)).setJustStored [])

/-- A maskable interrupt is served: the SIM latches the source (R328), the entry sequence runs through its vector (R330), and
the vector fetch clears the SIM's latch and, for /IRQ, the request (R329). -/
def State.enterInterrupt (s : State) (src : IntSource) : Out :=
  ((s.setSim { s.sim with intLatch := some src }).setWritten []).withException src.vector fun t =>
    .next (((t.setSim { t.sim with intLatch := none }).setMods
      (if src = .irq then { t.mods with irq := { t.mods.irq with latch := false } } else t.mods)).setJustStored [])

/-- The interrupt taken at this boundary, if one is: I must be 0, and no CLI or TAP just before holds it off (R301, R326). -/
def State.interruptPending (s : State) : Option IntSource :=
  if s.ccr.i || s.irqHold then none else s.served

/-- `Boundary()` of R326 with the order of R335. -/
def State.boundary (s : State) : Out :=
  if s.resetPending ≠ 0x00#8 then .next (s.resetSequence s.resetPending)
  else if s.breakPending then s.enterBreak
  else
    match s.interruptPending with
    | some src => s.enterInterrupt src
    | none =>
      match s.run with
      | .running =>
        match s.dueCommand with
        | some c => s.serveHost c
        | none => s.executeNext
      | .waiting => .next s
      | .stopped => .next s

/-- A table word in FLASH at $F800, with the reset vector at it and PC there, nothing else pending (log 7). -/
def State.placeWord (s : State) (nbits w : Nat) : State :=
  { s with
    pc := 0xF800#16
    run := .running
    mode := .user
    irqHold := true
    mem := (s.mem.writeAll 0xF800 ((tableBytes nbits w ++ [0x00#8, 0x00#8, 0x00#8, 0x00#8]).take 4)).writeAll 0xFFFE
      [0xF8#8, 0x00#8]
    sim := { s.sim with resetReq := 0x00#8 }
    brk := { s.brk with request := false, enable := false }
    pins := { s.pins with vddLow := false, pta := s.pins.pta ||| 0x08#6 }
    justStored := []
    inputs := []
    midInputs := [] }

end Sys2Proof.Machine
end

