-- ==== Sys2Proof/Machine/Step.lean ====
section
/-! DEFINITION. One step of the machine: the environment's batch lands, then the boundary is worked off
(spec/60_exceptions.md R326). -/

namespace Sys2Proof.Machine

/-- One step: a reset, a break entry, an interrupt entry, an idle boundary of WAIT or STOP, one command of the monitor's host,
or one instruction. -/
def step (s : State) : Host.Outcome State Fault Refusal := s.takeInputs.boundary

/-- The state in which the next step fetches and runs the instruction of a table word (log 7, log 29). -/
def State.withFetchWord (s : State) (nbits w : Nat) : State := s.placeWord nbits w

end Sys2Proof.Machine
end

