-- ==== Sys2Proof/Forms.lean ====
section
/-! DEFINITION. The forms of each mnemonic as a function of its operand, so that a statement speaks of all of them at once
(spec/30_encoding.md R86 to R97; the operand lists of spec/40_data_movement.md to spec/44_subroutines.md). -/

namespace Sys2Proof.Machine

/-- The four memory forms of a read-modify-write instruction, of TST and of CLR (R100, R103). -/
inductive MemForm where
  | dir (dd : Byte)
  | ix1 (ff : Byte)
  | ix
  | sp1 (ff : Byte)
deriving DecidableEq, Repr

/-- Its addressing mode. -/
def MemForm.mode : MemForm → AddrMode
  | .dir dd => .dir dd
  | .ix1 ff => .ix1 ff
  | .ix => .ix
  | .sp1 ff => .sp1 ff

/-- The five forms of JMP and JSR (R231, R281). -/
inductive JumpForm where
  | dir (dd : Byte)
  | ext (hhll : Word)
  | ix2 (eeff : Word)
  | ix1 (ff : Byte)
  | ix
deriving DecidableEq, Repr

/-- Its addressing mode. -/
def JumpForm.mode : JumpForm → AddrMode
  | .dir dd => .dir dd
  | .ext hhll => .ext hhll
  | .ix2 eeff => .ix2 eeff
  | .ix1 ff => .ix1 ff
  | .ix => .ix

/-- The forms of LDA. -/
def ldaForm : Operand → Instr
  | .imm ii => .ldaImm ii
  | .mem (.dir dd) => .ldaDir dd
  | .mem (.ext hhll) => .ldaExt hhll
  | .mem .ix => .ldaIx
  | .mem (.ix1 ff) => .ldaIx1 ff
  | .mem (.ix2 eeff) => .ldaIx2 eeff
  | .mem (.sp1 ff) => .ldaSp1 ff
  | .mem (.sp2 eeff) => .ldaSp2 eeff

/-- The forms of LDX. -/
def ldxForm : Operand → Instr
  | .imm ii => .ldxImm ii
  | .mem (.dir dd) => .ldxDir dd
  | .mem (.ext hhll) => .ldxExt hhll
  | .mem .ix => .ldxIx
  | .mem (.ix1 ff) => .ldxIx1 ff
  | .mem (.ix2 eeff) => .ldxIx2 eeff
  | .mem (.sp1 ff) => .ldxSp1 ff
  | .mem (.sp2 eeff) => .ldxSp2 eeff

/-- The forms of ADC. -/
def adcForm : Operand → Instr
  | .imm ii => .adcImm ii
  | .mem (.dir dd) => .adcDir dd
  | .mem (.ext hhll) => .adcExt hhll
  | .mem .ix => .adcIx
  | .mem (.ix1 ff) => .adcIx1 ff
  | .mem (.ix2 eeff) => .adcIx2 eeff
  | .mem (.sp1 ff) => .adcSp1 ff
  | .mem (.sp2 eeff) => .adcSp2 eeff

/-- The forms of ADD. -/
def addForm : Operand → Instr
  | .imm ii => .addImm ii
  | .mem (.dir dd) => .addDir dd
  | .mem (.ext hhll) => .addExt hhll
  | .mem .ix => .addIx
  | .mem (.ix1 ff) => .addIx1 ff
  | .mem (.ix2 eeff) => .addIx2 eeff
  | .mem (.sp1 ff) => .addSp1 ff
  | .mem (.sp2 eeff) => .addSp2 eeff

/-- The forms of SBC. -/
def sbcForm : Operand → Instr
  | .imm ii => .sbcImm ii
  | .mem (.dir dd) => .sbcDir dd
  | .mem (.ext hhll) => .sbcExt hhll
  | .mem .ix => .sbcIx
  | .mem (.ix1 ff) => .sbcIx1 ff
  | .mem (.ix2 eeff) => .sbcIx2 eeff
  | .mem (.sp1 ff) => .sbcSp1 ff
  | .mem (.sp2 eeff) => .sbcSp2 eeff

/-- The forms of SUB. -/
def subForm : Operand → Instr
  | .imm ii => .subImm ii
  | .mem (.dir dd) => .subDir dd
  | .mem (.ext hhll) => .subExt hhll
  | .mem .ix => .subIx
  | .mem (.ix1 ff) => .subIx1 ff
  | .mem (.ix2 eeff) => .subIx2 eeff
  | .mem (.sp1 ff) => .subSp1 ff
  | .mem (.sp2 eeff) => .subSp2 eeff

/-- The forms of CMP. -/
def cmpForm : Operand → Instr
  | .imm ii => .cmpImm ii
  | .mem (.dir dd) => .cmpDir dd
  | .mem (.ext hhll) => .cmpExt hhll
  | .mem .ix => .cmpIx
  | .mem (.ix1 ff) => .cmpIx1 ff
  | .mem (.ix2 eeff) => .cmpIx2 eeff
  | .mem (.sp1 ff) => .cmpSp1 ff
  | .mem (.sp2 eeff) => .cmpSp2 eeff

/-- The forms of CPX. -/
def cpxForm : Operand → Instr
  | .imm ii => .cpxImm ii
  | .mem (.dir dd) => .cpxDir dd
  | .mem (.ext hhll) => .cpxExt hhll
  | .mem .ix => .cpxIx
  | .mem (.ix1 ff) => .cpxIx1 ff
  | .mem (.ix2 eeff) => .cpxIx2 eeff
  | .mem (.sp1 ff) => .cpxSp1 ff
  | .mem (.sp2 eeff) => .cpxSp2 eeff

/-- The forms of AND. -/
def andForm : Operand → Instr
  | .imm ii => .andImm ii
  | .mem (.dir dd) => .andDir dd
  | .mem (.ext hhll) => .andExt hhll
  | .mem .ix => .andIx
  | .mem (.ix1 ff) => .andIx1 ff
  | .mem (.ix2 eeff) => .andIx2 eeff
  | .mem (.sp1 ff) => .andSp1 ff
  | .mem (.sp2 eeff) => .andSp2 eeff

/-- The forms of BIT. -/
def bitForm : Operand → Instr
  | .imm ii => .bitImm ii
  | .mem (.dir dd) => .bitDir dd
  | .mem (.ext hhll) => .bitExt hhll
  | .mem .ix => .bitIx
  | .mem (.ix1 ff) => .bitIx1 ff
  | .mem (.ix2 eeff) => .bitIx2 eeff
  | .mem (.sp1 ff) => .bitSp1 ff
  | .mem (.sp2 eeff) => .bitSp2 eeff

/-- The forms of EOR. -/
def eorForm : Operand → Instr
  | .imm ii => .eorImm ii
  | .mem (.dir dd) => .eorDir dd
  | .mem (.ext hhll) => .eorExt hhll
  | .mem .ix => .eorIx
  | .mem (.ix1 ff) => .eorIx1 ff
  | .mem (.ix2 eeff) => .eorIx2 eeff
  | .mem (.sp1 ff) => .eorSp1 ff
  | .mem (.sp2 eeff) => .eorSp2 eeff

/-- The forms of ORA. -/
def oraForm : Operand → Instr
  | .imm ii => .oraImm ii
  | .mem (.dir dd) => .oraDir dd
  | .mem (.ext hhll) => .oraExt hhll
  | .mem .ix => .oraIx
  | .mem (.ix1 ff) => .oraIx1 ff
  | .mem (.ix2 eeff) => .oraIx2 eeff
  | .mem (.sp1 ff) => .oraSp1 ff
  | .mem (.sp2 eeff) => .oraSp2 eeff

/-- The forms of STA. -/
def staForm : AddrMode → Instr
  | .dir dd => .staDir dd
  | .ext hhll => .staExt hhll
  | .ix => .staIx
  | .ix1 ff => .staIx1 ff
  | .ix2 eeff => .staIx2 eeff
  | .sp1 ff => .staSp1 ff
  | .sp2 eeff => .staSp2 eeff

/-- The forms of STX. -/
def stxForm : AddrMode → Instr
  | .dir dd => .stxDir dd
  | .ext hhll => .stxExt hhll
  | .ix => .stxIx
  | .ix1 ff => .stxIx1 ff
  | .ix2 eeff => .stxIx2 eeff
  | .sp1 ff => .stxSp1 ff
  | .sp2 eeff => .stxSp2 eeff

/-- The forms of NEG. -/
def negForm : MemForm → Instr
  | .dir dd => .negDir dd
  | .ix1 ff => .negIx1 ff
  | .ix => .negIx
  | .sp1 ff => .negSp1 ff

/-- The forms of COM. -/
def comForm : MemForm → Instr
  | .dir dd => .comDir dd
  | .ix1 ff => .comIx1 ff
  | .ix => .comIx
  | .sp1 ff => .comSp1 ff

/-- The forms of LSL. -/
def lslForm : MemForm → Instr
  | .dir dd => .lslDir dd
  | .ix1 ff => .lslIx1 ff
  | .ix => .lslIx
  | .sp1 ff => .lslSp1 ff

/-- The forms of LSR. -/
def lsrForm : MemForm → Instr
  | .dir dd => .lsrDir dd
  | .ix1 ff => .lsrIx1 ff
  | .ix => .lsrIx
  | .sp1 ff => .lsrSp1 ff

/-- The forms of ASR. -/
def asrForm : MemForm → Instr
  | .dir dd => .asrDir dd
  | .ix1 ff => .asrIx1 ff
  | .ix => .asrIx
  | .sp1 ff => .asrSp1 ff

/-- The forms of ROL. -/
def rolForm : MemForm → Instr
  | .dir dd => .rolDir dd
  | .ix1 ff => .rolIx1 ff
  | .ix => .rolIx
  | .sp1 ff => .rolSp1 ff

/-- The forms of ROR. -/
def rorForm : MemForm → Instr
  | .dir dd => .rorDir dd
  | .ix1 ff => .rorIx1 ff
  | .ix => .rorIx
  | .sp1 ff => .rorSp1 ff

/-- The forms of DEC. -/
def decForm : MemForm → Instr
  | .dir dd => .decDir dd
  | .ix1 ff => .decIx1 ff
  | .ix => .decIx
  | .sp1 ff => .decSp1 ff

/-- The forms of INC. -/
def incForm : MemForm → Instr
  | .dir dd => .incDir dd
  | .ix1 ff => .incIx1 ff
  | .ix => .incIx
  | .sp1 ff => .incSp1 ff

/-- The forms of TST. -/
def tstForm : MemForm → Instr
  | .dir dd => .tstDir dd
  | .ix1 ff => .tstIx1 ff
  | .ix => .tstIx
  | .sp1 ff => .tstSp1 ff

/-- The forms of CLR. -/
def clrForm : MemForm → Instr
  | .dir dd => .clrDir dd
  | .ix1 ff => .clrIx1 ff
  | .ix => .clrIx
  | .sp1 ff => .clrSp1 ff

/-- The forms of JSR. -/
def jsrForm : JumpForm → Instr
  | .dir dd => .jsrDir dd
  | .ext hhll => .jsrExt hhll
  | .ix2 eeff => .jsrIx2 eeff
  | .ix1 ff => .jsrIx1 ff
  | .ix => .jsrIx

/-- The forms of LDHX. -/
def ldhxForm : Operand16 → Instr
  | .imm jjkk => .ldhxImm jjkk
  | .dir dd => .ldhxDir dd

/-- The forms of CPHX. -/
def cphxForm : Operand16 → Instr
  | .imm jjkk => .cphxImm jjkk
  | .dir dd => .cphxDir dd

end Sys2Proof.Machine
end

