-- ==== Sys2Proof/Safety.lean ====
section
/-! DEFINITION. What counts as a safe run, in the terms statements use: boundaries at which nothing but the next instruction
happens, addresses that hold plain bytes, what one access may change, the frame of an exception, and the invariant. -/

namespace Sys2Proof.Machine

/-- The byte at an address as memory holds it: the read of one byte that statements about memory speak of. For a RAM, ROM or
FLASH address it is what the CPU reads there (R60, R61). -/
def State.byteAt (s : State) (a : Word) : Byte := s.mem.read a.toNat

/-- The address is one at which the CPU reads and executes plain bytes: RAM, ROM or FLASH (R51). -/
def State.plainAt (s : State) (a : Word) : Prop :=
  region s.cfg a.toNat = .ram ∨ region s.cfg a.toNat = .rom ∨ region s.cfg a.toNat = .flash

/-- The address lies in RAM (R51, R61). -/
def State.ramAt (s : State) (a : Word) : Prop := region s.cfg a.toNat = .ram

/-- The address lies in FLASH or ROM (R51). -/
def State.nonVolatileAt (s : State) (a : Word) : Prop :=
  region s.cfg a.toNat = .flash ∨ region s.cfg a.toNat = .rom

/-- At this boundary no reset, no break, no interrupt and no command of the monitor's host is due and the CPU runs, so the next
instruction executes (R326). -/
def State.quiet (s : State) : Prop :=
  s.resetPending = 0x00#8 ∧ s.breakPending = false ∧ s.interruptPending = none ∧ s.run = .running ∧
    s.dueCommand = none

/-- The operand can be read (R59): it is immediate, or its address is. -/
def Operand.readable (o : Operand) (s : State) : Prop :=
  match o with
  | .imm _ => True
  | .mem m => s.canRead (m.ea s) = true

/-- The operand's byte and the state after it is fetched: the immediate byte, or what the bus reads at `EA(mode)` (R120). -/
def Operand.value (o : Operand) (s : State) : Byte × State :=
  match o with
  | .imm ii => (ii, s)
  | .mem m => s.busRead (m.ea s)

/-- The 16-bit operand can be read: it is immediate, or both its addresses are (R57, R59). -/
def Operand16.readable (o : Operand16) (s : State) : Prop :=
  match o with
  | .imm _ => True
  | .dir dd => s.canRead (zext16 dd) = true ∧ s.canRead (zext16 dd + 1) = true

/-- The 16-bit operand and the state after it is fetched: high byte at the address, then low byte at the next (R57). -/
def Operand16.value (o : Operand16) (s : State) : Word × State :=
  match o with
  | .imm jjkk => (jjkk, s)
  | .dir dd =>
    let hi := s.busRead (zext16 dd)
    let lo := hi.2.busRead (zext16 dd + 1)
    (joinBytes hi.1 lo.1, lo.2)

/-- What the device agents may change between two bus cycles: requests of a reset or a break, the SIM and COP counters, the
module registers and the pins; no CPU register, no memory, no configuration (R64). -/
def AgentEffect (s u : State) : Prop :=
  ∃ req counter cop time brk mods pins mid,
    u = { s with
          sim := { s.sim with resetReq := req, counter := counter, cop := cop, copTime := time }
          brk := { s.brk with request := brk }
          mods := mods
          pins := pins
          midInputs := mid }

/-- What reading may change: SRSR, which a read of it clears (R58), the count of free values drawn, and what the devices do
before a device register is read; with no batch of theirs waiting, SRSR and the count alone. -/
def ReadEffect (s u : State) : Prop :=
  (∃ t r n, AgentEffect s t ∧ u = { t with sim := { t.sim with srsr := r }, free := n }) ∧
  (s.midInputs = [] → ∃ r n, u = { s with sim := { s.sim with srsr := r }, free := n })

/-- What storing `v` at `a` may change: the SIM and BREAK registers, the modules, the pins, the records of stored bytes, and
no byte of memory but the one at `a`; with no batch of the devices waiting, of the modules the ports, the /IRQ latch and the
timer alone; in RAM that byte becomes `v` and no register changes; FLASH and ROM keep everything, but for the COP behind $FFFF
(R58, R60, R61, R70). -/
def StoreEffect (s : State) (a : Word) (v : Byte) (w : State) : Prop :=
  (∃ sim brk mods pins mid mem js wr,
    w = { s with sim := sim, brk := brk, mods := mods, pins := pins, midInputs := mid, mem := mem, justStored := js,
                 written := wr }) ∧
  (s.midInputs = [] → w.pins = s.pins ∧ w.midInputs = [] ∧ ∃ ports latch tim,
    w.mods = { s.mods with ports := ports, irq := { s.mods.irq with latch := latch }, tim := tim }) ∧
  (∀ b, b ≠ a → w.byteAt b = s.byteAt b) ∧
  (s.ramAt a → w.byteAt a = v ∧ w.sim = s.sim ∧ w.brk = s.brk ∧ w.mods = s.mods ∧ w.pins = s.pins ∧
    w.midInputs = s.midInputs) ∧
  (s.nonVolatileAt a → w.byteAt a = s.byteAt a ∧ (a ≠ 0xFFFF#16 → w = s))

/-- The five addresses an exception entry stores to lie in RAM (R62, R331). -/
def State.frameInRam (s : State) : Prop :=
  s.ramAt s.sp ∧ s.ramAt (s.sp - 1) ∧ s.ramAt (s.sp - 2) ∧ s.ramAt (s.sp - 3) ∧ s.ramAt (s.sp - 4)

/-- The frame of R331 in `t` for an entry from `s` with return address `ret`, and nothing else stored. -/
def FrameOf (s t : State) (ret : Word) : Prop :=
  t.byteAt s.sp = loByte ret ∧ t.byteAt (s.sp - 1) = hiByte ret ∧ t.byteAt (s.sp - 2) = s.x ∧
  t.byteAt (s.sp - 3) = s.a ∧ t.byteAt (s.sp - 4) = s.ccr.toByte ∧ t.sp = s.sp - 5 ∧
  ∀ b, b ≠ s.sp → b ≠ s.sp - 1 → b ≠ s.sp - 2 → b ≠ s.sp - 3 → b ≠ s.sp - 4 → t.byteAt b = s.byteAt b

/-- The five addresses above SP hold plain bytes, as an RTI needs to find its frame (R62, R282). -/
def State.frameAbove (s : State) : Prop :=
  s.plainAt (s.sp + 1) ∧ s.plainAt (s.sp + 2) ∧ s.plainAt (s.sp + 3) ∧ s.plainAt (s.sp + 4) ∧ s.plainAt (s.sp + 5)

/-- The invariant of the machine at every boundary. -/
structure State.Inv (s : State) : Prop where
  /-- Memory is in canonical form. -/
  mem : Memory.wf s.mem = true
  /-- SRSR bit 0 reads 0 (R38). -/
  srsr : s.sim.srsr &&& 0x01#8 = 0x00#8
  /-- No reset is requested but of the sources of R312. -/
  resetReq : s.sim.resetReq &&& 0x05#8 = 0x00#8
  /-- The SIM's latch is empty between boundaries (R328). -/
  latch : s.sim.intLatch = none
  /-- While the CPU waits or is stopped, I is 0 (R296, R297). -/
  asleep : s.run ≠ .running → s.ccr.i = false
  /-- The CPU is stopped only if the STOP instruction is enabled, which CONFIG1 was written to do (R40, R296). -/
  stopped : s.run = .stopped → s.sim.stopEnabled = true ∧ s.sim.config1Written = true
  /-- CONFIG1 that has not been written since the reset holds its reset value (R40, D18). -/
  config1 : s.sim.config1Written = false → s.sim.config1 = 0x00#8

end Sys2Proof.Machine
end

