-- ==== Sys2Proof/Certificates/Slice0/Obligations.lean ====
section
/-! DEFINITION. The statements for the provers. Flags are written with the bit formulas of the spec (spec/10_state.md R26 to
R31 and the Flags line of each rule), not with the model's own flag functions.

In a result `{ u with … }` everything that is not named is as in `u`: that is the frame. `u` is the state after the operand is
fetched, which `ReadEffect` ties to the state before; `w` is the state after a store, which `StoreEffect` does. -/

open Sys2Proof Sys2Proof.Machine

/-! ### Encoding -/

/-- Decoding the encoding of a well-formed instruction gives it back, and leaves the bytes that follow (R81, R99 to R105).
The opcode map is general knowledge by the spec's own mark (log 40). -/
def Obligations.DecodeOfEncode : Prop :=
  ∀ (i : Instr) (rest : List Byte), i.wellFormed = true → decode (encode i ++ rest) = .ok (i, rest)

/-- What decodes is the encoding of what it decodes to: no bit of the bytes read is dropped; and only the prefix with nothing
after it gives a term that is not well formed (R103 to R105). The opcode map is general knowledge by the spec's own mark (log
40). -/
def Obligations.EncodeOfDecode : Prop :=
  ∀ (bs : List Byte) (i : Instr) (rest : List Byte), decode bs = .ok (i, rest) →
    encode i ++ rest = bs ∧ (i.wellFormed = true ∨ (i = .page2Prefix ∧ bs = [0x9E#8]))

/-- The illegal encodings are exactly the six bytes of page 1 and the 215 second bytes of page 2 (R104). The list is general
knowledge by the spec's own mark (logs 28, 40). -/
def Obligations.IllegalEncodings : Prop :=
  (∀ rest : List Byte,
    decode (0x32#8 :: rest) = .ok (.illegal32, rest) ∧ decode (0x3E#8 :: rest) = .ok (.illegal3E, rest) ∧
    decode (0x82#8 :: rest) = .ok (.illegal82, rest) ∧ decode (0x8D#8 :: rest) = .ok (.illegal8D, rest) ∧
    decode (0x96#8 :: rest) = .ok (.illegal96, rest) ∧ decode (0xAC#8 :: rest) = .ok (.illegalAC, rest)) ∧
  (∀ (b1 : Byte) (rest : List Byte), page2Opcodes.contains b1 = false →
    decode (0x9E#8 :: b1 :: rest) = .ok (.illegalPage2 b1, rest)) ∧
  ((List.range 256).filter fun k => !page2Opcodes.contains (BitVec.ofNat 8 k)).length = 215 ∧
  (∀ (b0 : Byte) (bs rest : List Byte) (i : Instr), decode (b0 :: bs) = .ok (i, rest) →
    i ∈ [Instr.illegal32, .illegal3E, .illegal82, .illegal8D, .illegal96, .illegalAC] →
      b0 ∈ [0x32#8, 0x3E#8, 0x82#8, 0x8D#8, 0x96#8, 0xAC#8]) ∧
  (∀ (b0 b1 : Byte) (bs rest : List Byte), decode (b0 :: bs) = .ok (.illegalPage2 b1, rest) →
    b0 = 0x9E#8 ∧ page2Opcodes.contains b1 = false)

/-- Words written out from the spec's encodings decode to the instructions they stand for, one or more of every family; the
first is the one opcode value the sources give (R112; R81, R85, R99 to R104). All bytes but $4C are general knowledge by the
spec's own mark (log 40). -/
def Obligations.SampleWords : Prop :=
  decode [0x4C#8] = .ok (.inca, []) ∧
  decode [0xA6#8, 0x20#8] = .ok (.ldaImm 0x20#8, []) ∧
  decode [0x9E#8, 0xD6#8, 0x48#8, 0x5E#8] = .ok (.ldaSp2 0x485E#16, []) ∧
  decode [0x6E#8, 0x40#8, 0x25#8] = .ok (.movImd 0x40#8 0x25#8, []) ∧
  decode [0x65#8, 0x00#8, 0xFF#8] = .ok (.cphxImm 0x00FF#16, []) ∧
  decode [0x9E#8, 0x6C#8, 0x03#8] = .ok (.incSp1 0x03#8, []) ∧
  decode [0xD4#8, 0x01#8, 0x02#8] = .ok (.andIx2 0x0102#16, []) ∧
  decode [0x9E#8, 0x61#8, 0x01#8, 0x02#8] = .ok (.cbeqSp1 0x01#8 0x02#8, []) ∧
  decode [0x07#8, 0x80#8, 0xFD#8] = .ok (.brclr 3#3 0x80#8 0xFD#8, []) ∧
  decode [0xCD#8, 0xEE#8, 0x40#8] = .ok (.jsrExt 0xEE40#16, []) ∧
  decode [0x1E#8, 0x80#8] = .ok (.bset 7#3 0x80#8, []) ∧
  decode [0x83#8] = .ok (.swi, []) ∧
  decode [0x9E#8, 0x62#8] = .ok (.illegalPage2 0x62#8, [])

/-! ### Reset -/

/-- The state after a power-on reset of an erased part (R47, R360, R371, R372). H, SP, I, the run state, the vectors, the data
directions, the /IRQ latch and the internal oscillator are the spec's own values. The model's choices in it: POR at bit 7 of
SRSR (log 11), STOP disabled by a CONFIG1 of zero (log 13), /RST and /IRQ off until CONFIG2 is written (log 14), and the pins
at reset, by which an erased part enters monitor mode from its internal oscillator (log 48). A, X and the other flags (log 1)
and the module registers no rule resets (log 24) are not in it. -/
def Obligations.ResetState : Prop :=
  State.reset.h = 0x00#8 ∧ State.reset.sp = 0x00FF#16 ∧ State.reset.ccr.i = true ∧ State.reset.run = .running ∧
  State.reset.mode = .monitor ∧
  State.reset.pc = joinBytes (State.reset.byteAt 0xFEFE#16) (State.reset.byteAt 0xFEFF#16) ∧
  State.reset.sim.srsr = 0x80#8 ∧ State.reset.mods.ports.ddra = 0x00#8 ∧ State.reset.mods.ports.ddrb = 0x00#8 ∧
  State.reset.mods.irq.latch = false ∧ State.reset.mods.osc.source = .internal ∧
  State.reset.sim.irqEn = false ∧ State.reset.sim.rstEn = false ∧ State.reset.sim.stopEnabled = false ∧
  State.reset.byteAt 0xFFFE#16 = 0xFF#8 ∧ State.reset.byteAt 0xFFFF#16 = 0xFF#8

/-- What the reset sequence leaves, whatever the state before and the causes (R38, R47, R311, R312, R360, R370, R373): the
stated register values, the cause record, the vector of the mode in PC, the clock source and /RST function that the entry to
monitor mode asks for; FLASH and ROM as before; RAM as before, but free values after a power-on (U2), and after another
asynchronous reset in the bytes that the instruction before it wrote (U23); A, X and five flags free values after every
reset (D1). The model's choices: the free values (log 2), the layout of SRSR (log 11), the SIM counter (log 18), which bytes
a cut instruction was writing (log 37), RAM kept otherwise (log 38), and the mode sampled at every reset (log 8). -/
def Obligations.ResetSequence : Prop :=
  ∀ (s : State) (causes : Byte),
    let t := s.resetSequence causes
    let erased := s.byteAt 0xFFFE#16 = 0xFF#8 ∧ s.byteAt 0xFFFF#16 = 0xFF#8
    let levels := s.pins.irqVtst && s.pins.pta.getLsbD 3 && s.pins.pta.getLsbD 1 && !s.pins.pta.getLsbD 4
    t.h = 0x00#8 ∧ t.sp = 0x00FF#16 ∧ t.ccr.i = true ∧ t.run = .running ∧
    t.mods.ports.ddra = 0x00#8 ∧ t.mods.ports.ddrb = 0x00#8 ∧ t.mods.irq.latch = false ∧
    (t.mods.osc.source = .internal ∨ t.mods.osc.source = .externalClock) ∧
    (t.mods.osc.source = .externalClock ↔
      levels = true ∨ (erased ∧ s.pins.irqVtst = false ∧ s.pins.pta.getLsbD 2 = true)) ∧
    t.sim.irqEn = false ∧ t.sim.rstEn = levels ∧
    (causes.getLsbD 7 = true → t.sim.srsr = 0x80#8) ∧
    (causes.getLsbD 7 = false → levels = false → erased → t.sim.srsr = s.sim.srsr ||| causes ||| 0x04#8) ∧
    (causes.getLsbD 7 = false → (levels = true ∨ ¬erased) → t.sim.srsr = s.sim.srsr ||| causes) ∧
    t.sim.counter = (if causes = 0x40#8 then s.sim.counter else 0#12) ∧
    (t.mode = .user → t.pc = joinBytes (s.byteAt 0xFFFE#16) (s.byteAt 0xFFFF#16)) ∧
    (t.mode = .monitor → t.pc = joinBytes (s.byteAt 0xFEFE#16) (s.byteAt 0xFEFF#16)) ∧
    (∀ a, s.nonVolatileAt a → t.byteAt a = s.byteAt a) ∧
    (causes.getLsbD 7 = false → ∀ a, s.ramAt a → causes &&& 0x62#8 = 0x00#8 ∨ a ∉ s.written →
      t.byteAt a = s.byteAt a) ∧
    (causes.getLsbD 7 = false → causes &&& 0x62#8 ≠ 0x00#8 → Memory.wf s.mem = true →
      ∀ a, s.ramAt a → a ∈ s.written →
        ∃ k, k < s.written.length ∧ t.byteAt a = Config.freeByte (s.free + 7 + k)) ∧
    (causes.getLsbD 7 = true → Memory.wf s.mem = true →
      ∀ k, k < 128 → t.mem.read (0x80 + k) = Config.freeByte (s.free + 7 + k)) ∧
    t.a = Config.freeByte s.free ∧ t.x = Config.freeByte (s.free + 1) ∧
    t.ccr.v = (Config.freeByte (s.free + 2)).getLsbD 0 ∧ t.ccr.h = (Config.freeByte (s.free + 3)).getLsbD 0 ∧
    t.ccr.n = (Config.freeByte (s.free + 4)).getLsbD 0 ∧ t.ccr.z = (Config.freeByte (s.free + 5)).getLsbD 0 ∧
    t.ccr.c = (Config.freeByte (s.free + 6)).getLsbD 0 ∧
    t.cfg = s.cfg ∧ t.pins = s.pins

/-- The mode entered at the exit from a reset (the table of R360, and R373): it is monitor if both bytes of the user reset
vector are erased, and without VTST on /IRQ only then; with VTST on /IRQ, VDD on /RST, PTA1 = 1 and PTA4 = 0 it is monitor whatever the vector.
Sampling at every reset is the model's choice (log 8). -/
def Obligations.ResetMode : Prop :=
  ∀ (s : State) (causes : Byte),
    (s.pins.irqVtst = false →
      ((s.resetSequence causes).mode = .monitor ↔ s.byteAt 0xFFFE#16 = 0xFF#8 ∧ s.byteAt 0xFFFF#16 = 0xFF#8)) ∧
    (s.byteAt 0xFFFE#16 = 0xFF#8 → s.byteAt 0xFFFF#16 = 0xFF#8 → (s.resetSequence causes).mode = .monitor) ∧
    (s.pins.irqVtst = true → s.pins.pta.getLsbD 3 = true → s.pins.pta.getLsbD 1 = true → s.pins.pta.getLsbD 4 = false →
      (s.resetSequence causes).mode = .monitor)

/-- No reset is masked, whatever I is and in every run state (R312, R340): a power-on, a low /RST while the pin has that
function, by a pulse or by the level of PTA3, VDD below the trip point while the LVI and its reset are on (in STOP with
LVISTOP), and the COP's overflow each request their reset, and it stays requested when the level has gone before the boundary
(R314, R318); what is requested at a boundary is taken; so are the resets of an illegal opcode, of STOP while not
enabled, and of an opcode fetch from an unimplemented address; each sets I and leaves the CPU running. The bits of SRSR by
which the requests are told apart are log 11, the list of illegal opcodes log 28, the layout of CONFIG1 log 13, the COP's
count log 17, how long and by what /RST must be low log 53, the level of VDD log 19. -/
def Obligations.ResetIsNotMasked : Prop :=
  ∀ (s : State) (b1 : Byte) (n : Nat) (pta pta' : BitVec 6) (ptb ptb' : Byte) (vtst vtst' : Bool),
    (s.deliver .powerOn).resetPending.getLsbD 7 = true ∧
    (s.sim.rstEn = true → (s.deliver .resetPin).resetPending.getLsbD 6 = true) ∧
    (s.sim.rstEn = true → s.pins.pta.getLsbD 3 = false → s.resetPending.getLsbD 6 = true) ∧
    (s.sim.rstEn = true → pta.getLsbD 3 = false →
      ((s.deliver (.pins pta ptb vtst)).deliver (.pins pta' ptb' vtst')).resetPending.getLsbD 6 = true) ∧
    (s.sim.config1.getLsbD 4 = false → s.sim.config1.getLsbD 5 = false →
      s.run ≠ .stopped ∨ s.sim.config1.getLsbD 6 = true →
      (s.deliver (.supply true)).resetPending.getLsbD 1 = true ∧
        ((s.deliver (.supply true)).deliver (.supply false)).resetPending.getLsbD 1 = true) ∧
    (s.run ≠ .stopped → s.lviForces = false → s.copRuns = true → s.sim.copTimeout ≤ s.sim.copTime + n →
      (s.deliver (.clocks n)).resetPending.getLsbD 5 = true) ∧
    (s.takeInputs.resetPending ≠ 0x00#8 →
      ∃ t, step s = .next t ∧ t = s.takeInputs.resetSequence s.takeInputs.resetPending ∧
        t.ccr.i = true ∧ t.run = .running) ∧
    (∀ i ∈ [Instr.illegal32, .illegal3E, .illegal82, .illegal8D, .illegal96, .illegalAC, .illegalPage2 b1],
      ∃ t, exec i s = .next t ∧ t.sim.srsr.getLsbD 4 = true ∧ t.ccr.i = true ∧ t.run = .running) ∧
    (s.sim.stopEnabled = false →
      ∃ t, exec .stop s = .next t ∧ t.sim.srsr.getLsbD 4 = true ∧ t.ccr.i = true ∧ t.run = .running) ∧
    (s.takeInputs.quiet → region s.takeInputs.cfg s.takeInputs.pc.toNat = .unimplemented →
      ∃ t, step s = .next t ∧ t.sim.srsr.getLsbD 3 = true ∧ t.ccr.i = true ∧ t.run = .running)

/-- Every illegal encoding, and STOP while its enable bit is 0, resets the chip with ILOP recorded, before it has any effect:
nothing is stacked, no byte of RAM, FLASH or ROM changes (R104, R316). The model's choices: the list of illegal encodings
(log 28, general knowledge by R104's own mark), ILOP at bit 4 and MODRST at bit 2 of SRSR (log 11), RAM kept through a reset
(log 38). -/
def Obligations.IllegalOpcodeReset : Prop :=
  ∀ (s : State) (b1 : Byte),
    let levels := s.pins.irqVtst && s.pins.pta.getLsbD 3 && s.pins.pta.getLsbD 1 && !s.pins.pta.getLsbD 4
    (∀ i ∈ [Instr.illegal32, .illegal3E, .illegal82, .illegal8D, .illegal96, .illegalAC, .illegalPage2 b1],
      exec i s = .next (s.resetSequence 0x10#8)) ∧
    (s.sim.stopEnabled = false → exec .stop s = .next (s.resetSequence 0x10#8)) ∧
    (s.resetSequence 0x10#8).sim.srsr = s.sim.srsr ||| 0x10#8 |||
      (if levels = false ∧ s.byteAt 0xFFFE#16 = 0xFF#8 ∧ s.byteAt 0xFFFF#16 = 0xFF#8 then 0x04#8 else 0x00#8) ∧
    (∀ a, s.plainAt a → (s.resetSequence 0x10#8).byteAt a = s.byteAt a)

/-- An opcode fetch from an unimplemented address resets the chip with ILAD recorded; from a reserved address, and from a
device register, it is refused; a data read or a data write at an unimplemented address does not reset: it stops (R59, R317,
D10). ILAD at bit 3 and MODRST at bit 2 of SRSR are the model's (log 11), and so are the constructors of the four stops (log
26). -/
def Obligations.IllegalAddressReset : Prop :=
  ∀ s : State,
    let levels := s.pins.irqVtst && s.pins.pta.getLsbD 3 && s.pins.pta.getLsbD 1 && !s.pins.pta.getLsbD 4
    (s.takeInputs.quiet →
      (region s.takeInputs.cfg s.takeInputs.pc.toNat = .unimplemented →
        step s = .next (s.takeInputs.resetSequence 0x08#8)) ∧
      (region s.takeInputs.cfg s.takeInputs.pc.toNat = .reserved →
        step s = .refused (.reservedFetch s.takeInputs.pc)) ∧
      (region s.takeInputs.cfg s.takeInputs.pc.toNat = .device →
        step s = .refused (.deviceFetch s.takeInputs.pc))) ∧
    (s.resetSequence 0x08#8).sim.srsr = s.sim.srsr ||| 0x08#8 |||
      (if levels = false ∧ s.byteAt 0xFFFE#16 = 0xFF#8 ∧ s.byteAt 0xFFFF#16 = 0xFF#8 then 0x04#8 else 0x00#8) ∧
    (∀ a : Word, region s.cfg a.toNat = .unimplemented →
      (∀ k : Byte → State → Out, s.withRead a k = .fault (.unimplementedAccess a)) ∧
      (∀ (v : Byte) (k : State → Out), s.withWrite a v k = .fault (.unimplementedAccess a)))

/-! ### The step -/

/-- At a quiet boundary, when the bytes at PC are plain and decode to an instruction `i` of which the instruction before
changed no byte, the step is `exec i` with PC past `i`; the hold after a CLI, the record of stored bytes and the pass of a
displaced instruction end with it (R24, R67, R105, R301, R326, R347), and in monitor mode an SWI or PSHH takes an entry to the
monitor further (R358). The records of changed and of written bytes, the hold, the displaced pass and the record of the entry
are the model's own (logs 16, 27, 33, 37, 39). -/
def Obligations.StepRunsDecoded : Prop :=
  ∀ (s : State) (i : Instr) (rest : List Byte),
    let q := s.takeInputs
    q.quiet → i.wellFormed = true →
    decode [q.byteAt q.pc, q.byteAt (q.pc + 1), q.byteAt (q.pc + 2), q.byteAt (q.pc + 3)] = .ok (i, rest) →
    (∀ k, k < (encode i).length → q.plainAt (q.pc + BitVec.ofNat 16 k)) →
    (∀ k, k < (encode i).length → q.pc + BitVec.ofNat 16 k ∉ q.justStored) →
    step s = exec i
      { q with
        pc := q.pc + BitVec.ofNat 16 (encode i).length
        justStored := []
        written := []
        irqHold := false
        brk := { q.brk with phase := if q.brk.phase = .returned then .idle else q.brk.phase }
        link := q.link.follow q.mode i }

/-- Every step keeps the invariant of the machine, from every state that has it. Its clauses on SRSR, the latch and CONFIG1
are the model's (logs 11, 13, 36). -/
def Obligations.StepKeepsInvariant : Prop :=
  ∀ s t : State, s.Inv → step s = .next t → t.Inv

/-- The machine out of reset has the invariant. -/
def Obligations.InvariantAtReset : Prop := State.reset.Inv

/-- No step changes a byte of FLASH or ROM, nor the parameters of the chip (R4, R60). That an ordinary store leaves FLASH
alone is D11 (log 15). -/
def Obligations.FlashAndRomKept : Prop :=
  ∀ s t : State, step s = .next t → t.cfg = s.cfg ∧ ∀ a, s.nonVolatileAt a → t.byteAt a = s.byteAt a

/-- The operating mode changes at a reset and at no other step (R36). Log 8. -/
def Obligations.ModeChangesAtReset : Prop :=
  ∀ s t : State, step s = .next t → t.mode ≠ s.mode → ∃ q causes, t = State.resetSequence q causes

/-- CCR as a byte: each flag at its bit, bits 6 and 5 always 1; a byte written to CCR sets the flags and cannot clear those
two bits (R25, R32). That a written byte cannot clear them is D32. -/
def Obligations.CcrByte : Prop :=
  (∀ f : Flags, f.toByte.getLsbD 7 = f.v ∧ f.toByte.getLsbD 6 = true ∧ f.toByte.getLsbD 5 = true ∧
    f.toByte.getLsbD 4 = f.h ∧ f.toByte.getLsbD 3 = f.i ∧ f.toByte.getLsbD 2 = f.n ∧ f.toByte.getLsbD 1 = f.z ∧
    f.toByte.getLsbD 0 = f.c ∧ Flags.ofByte f.toByte = f) ∧
  (∀ b : Byte, (Flags.ofByte b).toByte = b ||| 0x60#8)

/-! ### Memory -/

/-- The memory map: every address of the 64 Kbyte space lies in exactly the row that the table gives it, by chip where
FLASH_BASE stands in the table (R51, D15). That $FFBE (FLBPR) and $FFC0 (the OSCTRIM value) are bytes of FLASH is log 46. -/
def Obligations.MemoryMap : Prop :=
  ∀ p : Params,
    let base : Nat := if p.variant = .qt4 ∨ p.variant = .qy4 then 0xEE00 else 0xF800
    let rows : List (Nat × Nat × Region) :=
      [(0x0000, 0x003F, .device), (0x0040, 0x007F, .reserved), (0x0080, 0x00FF, .ram),
       (0x0100, 0x27FF, .unimplemented), (0x2800, 0x2DFF, .rom), (0x2E00, base - 1, .unimplemented),
       (base, 0xFDFF, .flash), (0xFE00, 0xFE06, .device), (0xFE07, 0xFE07, .reserved), (0xFE08, 0xFE0C, .device),
       (0xFE0D, 0xFE0F, .reserved), (0xFE10, 0xFFAF, .rom), (0xFFB0, 0xFFBD, .flash), (0xFFBE, 0xFFBE, .flash),
       (0xFFBF, 0xFFBF, .reserved), (0xFFC0, 0xFFC0, .flash), (0xFFC1, 0xFFC1, .reserved),
       (0xFFC2, 0xFFCF, .flash), (0xFFD0, 0xFFFF, .flash)]
    (∀ r ∈ rows, ∀ a : Nat, r.1 ≤ a → a ≤ r.2.1 → region p a = r.2.2) ∧
    (∀ a : Word, ∃ r ∈ rows, r.1 ≤ a.toNat ∧ a.toNat ≤ r.2.1)

/-- A read: in RAM, ROM and FLASH it gives the byte there and changes nothing; anywhere it changes SRSR, the count of free
values and what the devices do before a device register is accessed, no more (`ReadEffect`); at an unimplemented or reserved
address it stops (R58, R59, R61, R69, D10). The stops are the model's choice (log 26), the free reads log 9, the clearing of
SRSR log 11, the moment the devices act log 51. -/
def Obligations.ReadOneByte : Prop :=
  ∀ (s : State) (a : Word) (k : Byte → State → Out),
    (s.plainAt a → s.withRead a k = k (s.byteAt a) s) ∧
    (s.canRead a = true → s.withRead a k = k (s.busRead a).1 (s.busRead a).2) ∧
    ReadEffect s (s.busRead a).2 ∧
    (region s.cfg a.toNat = .unimplemented → s.withRead a k = .fault (.unimplementedAccess a)) ∧
    (region s.cfg a.toNat = .reserved → s.withRead a k = .refused (.reservedAccess a))

/-- A write: RAM takes the byte and no other byte changes; ROM and FLASH keep theirs; at an unimplemented or reserved address
it stops, and in FLASH or ROM while FLCR's program or erase bits are set (R59 to R61; the stops are D10 and D11, logs 15, 26;
a device register keeps what logs 10 to 16 say; what the devices do before such an access is log 51). -/
def Obligations.WriteOneByte : Prop :=
  ∀ (s : State) (a : Word) (v : Byte) (k : State → Out), Memory.wf s.mem = true →
    (s.canWrite a = true → s.withWrite a v k = k (s.busWrite a v)) ∧
    StoreEffect s a v (s.busWrite a v) ∧
    Memory.wf (s.busWrite a v).mem = true ∧
    (region s.cfg a.toNat = .unimplemented → s.withWrite a v k = .fault (.unimplementedAccess a)) ∧
    (region s.cfg a.toNat = .reserved → s.withWrite a v k = .refused (.reservedAccess a)) ∧
    (s.nonVolatileAt a → a ≠ 0xFFFF#16 → s.sim.flashBusy = true → s.withWrite a v k = .refused (.flashProgramming a))

/-- The two faces of $FFFF: a read gives the FLASH byte; a write of any value, by the write every store goes through and by
STA extended, clears the COP counter and stages 12 to 5 of the SIM counter, starts the COP's time anew and changes nothing
else, the FLASH byte included (R70, R368). That those stages are bits 11 to 4, and the COP's time as a count of its own, are
log 17. -/
def Obligations.CopctlTwoFaces : Prop :=
  ∀ (s : State) (v : Byte) (kr : Byte → State → Out) (kw : State → Out),
    s.withRead 0xFFFF#16 kr = kr (s.byteAt 0xFFFF#16) s ∧
    ∃ w : State,
      s.withWrite 0xFFFF#16 v kw = kw w ∧
      w = { s with sim := { s.sim with cop := 0#6, counter := w.sim.counter, copTime := 0 } } ∧
      (∀ n, w.sim.counter.getLsbD n = (decide (n < 4) && s.sim.counter.getLsbD n)) ∧
      w.byteAt 0xFFFF#16 = s.byteAt 0xFFFF#16 ∧
      ∃ f, exec (.staExt 0xFFFF#16) s = .next { w with ccr := f }

/-- The system registers with an address, in the state `q` the devices leave before the access: SRSR is cleared by reading it
(R58); CONFIG1 takes one write after a reset (R40); BRKH:BRKL hold the break address and BRKA = 1 requests a break (R44); INT1
to INT3 show the pending enabled sources and are read-only (R39). Clearing by reading, read-only and write-once are general
knowledge by the spec's own marks (logs 11, 12, 13, 16); the devices' moment is log 51. -/
def Obligations.SystemRegisters : Prop :=
  ∀ (s : State) (v w : Byte),
    let q := s.agentsAct
    (s.busRead 0xFE01#16).1 = s.sim.srsr ∧ (s.busRead 0xFE01#16).2 = { q with sim := { q.sim with srsr := 0x00#8 } } ∧
    (s.busRead 0x001F#16).1 = s.sim.config1 ∧
    (s.sim.config1Written = false → ((s.busWrite 0x001F#16 v).busWrite 0x001F#16 w).sim.config1 = v) ∧
    (s.sim.config1Written = true → s.busWrite 0x001F#16 v = q) ∧
    ((s.busWrite 0xFE09#16 v).busWrite 0xFE0A#16 w).brk.addr = joinBytes v w ∧
    (s.busRead 0xFE09#16).1 = hiByte s.brk.addr ∧ (s.busRead 0xFE0A#16).1 = loByte s.brk.addr ∧
    (s.busWrite 0xFE0B#16 v).brk.request = (q.brk.request || Config.brkaOf v) ∧
    ((s.busRead 0xFE04#16).1.getLsbD 2 = q.requests .irq ∧ (s.busRead 0xFE04#16).1.getLsbD 4 = q.requests .tim0 ∧
      (s.busRead 0xFE04#16).1.getLsbD 5 = q.requests .tim1 ∧
      (s.busRead 0xFE04#16).1.getLsbD 6 = q.requests .timOverflow ∧
      (s.busRead 0xFE05#16).1.getLsbD 7 = q.requests .keyboard ∧ (s.busRead 0xFE06#16).1.getLsbD 0 = q.requests .adc) ∧
    s.busWrite 0xFE04#16 v = q ∧ s.busWrite 0xFE05#16 v = q ∧ s.busWrite 0xFE06#16 v = q

/-- Push stores first, then decrements SP; pull increments SP first, then loads, both modulo 2^16 (R33; the wrap is D2, log
30); over RAM a pull after a push gives the byte back and the old SP. -/
def Obligations.PushAndPull : Prop :=
  ∀ (s : State) (v : Byte), Memory.wf s.mem = true →
    (s.canWrite s.sp = true → ∀ k : State → Out,
      s.withPush v k = k { s.busWrite s.sp v with sp := s.sp - 1 } ∧ StoreEffect s s.sp v (s.busWrite s.sp v)) ∧
    (s.plainAt (s.sp + 1) → ∀ k : Byte → State → Out,
      s.withPull k = k (s.byteAt (s.sp + 1)) { s with sp := s.sp + 1 }) ∧
    (s.ramAt s.sp → ∀ k : Byte → State → Out,
      ∃ w, StoreEffect s s.sp v w ∧ s.withPush v (fun t => t.withPull k) = k v { w with sp := s.sp })

/-- The watchdog (R368): `n` oscillator cycles request a COP reset exactly if with them it has counted its timeout, 2^18 - 2^4
cycles or 2^13 - 2^4 with COPRS = 1; a write to $FFFF starts the count anew, so none comes within the timeout after it; and
with COPD = 1, in a break, in STOP and in monitor mode with VTST none comes at all. Nor does one while the LVI holds the
chip in reset: that is no sentence of R368, but the model's deduction from R318 and R369 that no clock counts in the hold
(DEDUCED, log 19). The meaning of COPRS and the count of its own are the model's too (logs 13, 17). -/
def Obligations.Watchdog : Prop :=
  ∀ (s : State) (n : Nat) (v : Byte),
    let timeout := if s.sim.config1.getLsbD 7 then 2 ^ 13 - 2 ^ 4 else 2 ^ 18 - 2 ^ 4
    (s.run ≠ .stopped → s.lviForces = false → s.copRuns = true →
      (s.deliver (.clocks n)).sim.resetReq =
        if timeout ≤ s.sim.copTime + n then s.sim.resetReq ||| 0x20#8 else s.sim.resetReq) ∧
    (n < timeout → ((s.busWrite 0xFFFF#16 v).deliver (.clocks n)).sim.resetReq = s.sim.resetReq) ∧
    (s.run = .stopped ∨ s.lviForces = true ∨ s.sim.config1.getLsbD 0 = true ∨ s.brk.phase = .serving ∨
      (s.mode = .monitor ∧ s.pins.irqVtst = true) → (s.deliver (.clocks n)).sim.resetReq = s.sim.resetReq)

/-! ### Exceptions -/

/-- The frame of an exception entry: with `S` the SP before it, the return address (low byte, then high byte), X, A and CCR
lie at `S` down to `S - 4`, and SP ends at `S - 5`. It is said of the one operation through which SWI, the interrupts and the
break enter. -/
def Obligations.ExceptionFrame : Prop :=
  ∀ (s : State) (vector : Word) (k : State → Out), Memory.wf s.mem = true → s.frameInRam →
    s.nonVolatileAt vector → s.nonVolatileAt (vector + 1) →
    ∃ t, s.withException vector k = k t ∧
      t.byteAt s.sp = loByte s.pc ∧ t.byteAt (s.sp - 1) = hiByte s.pc ∧ t.byteAt (s.sp - 2) = s.x ∧
      t.byteAt (s.sp - 3) = s.a ∧ t.byteAt (s.sp - 4) = s.ccr.toByte ∧ t.sp = s.sp - 5

/-- A maskable interrupt taken at a boundary: the frame of five bytes with the PC of the boundary as return address, then I
set, PC from the source's vector, the CPU running; H, the other flags and every other byte are as before; only /IRQ's latch
is cleared by it; in the handler SP-relative addressing finds CCR at 1, A at 2, X at 3, PCH at 4, PCL at 5 (R321, R329 to
R332, R350; the last by the spec's own inference in R331). The SIM's latch that holds one source, and a request of /IRQ cleared by the
vector fetch alone, are the model's (logs 36, 47). -/
def Obligations.InterruptEntry : Prop :=
  ∀ (s : State) (src : IntSource),
    let q := s.takeInputs
    q.resetPending = 0x00#8 → q.breakPending = false → q.interruptPending = some src →
    Memory.wf q.mem = true → q.frameInRam →
    ∃ t, step s = .next t ∧ FrameOf q t q.pc ∧ t.ccr = { q.ccr with i := true } ∧
      t.pc = joinBytes (q.byteAt src.vector) (q.byteAt (src.vector + 1)) ∧
      t.run = .running ∧ t.a = q.a ∧ t.h = q.h ∧ t.x = q.x ∧ t.mode = q.mode ∧
      t.sim = { q.sim with intLatch := none } ∧ t.brk = q.brk ∧ t.pins = q.pins ∧
      t.mods = (if src = .irq then { q.mods with irq := { q.mods.irq with latch := false } } else q.mods) ∧
      t.byteAt ((AddrMode.sp1 0x01#8).ea t) = q.ccr.toByte ∧ t.byteAt ((AddrMode.sp1 0x02#8).ea t) = q.a ∧
      t.byteAt ((AddrMode.sp1 0x03#8).ea t) = q.x ∧ t.byteAt ((AddrMode.sp1 0x04#8).ea t) = hiByte q.pc ∧
      t.byteAt ((AddrMode.sp1 0x05#8).ea t) = loByte q.pc

/-- Which interrupt is taken: none while I is 1 or a CLI holds it off; else, while the CPU runs or waits, exactly the pending
enabled source with the lowest IF number; in STOP /IRQ, then the keyboard, and no other. Each request is its own flag under
its own control bit: IMASK1 = 1 and IMASKK = 1 block theirs, CHxIE, TOIE and AIEN = 0 block the others, and without an ADC
(QT1, QY1) there is no request of it (R4, R301, R323 to R327, R350, R366, R367). That masks block at 1 and enables let
through at 1 is general knowledge by R324's own mark; the level modes are logs 21 and 25, the sources of STOP log 35. -/
def Obligations.InterruptChoice : Prop :=
  ∀ s : State, s.sim.intLatch = none →
    (s.ccr.i = true ∨ s.irqHold = true → s.interruptPending = none) ∧
    (s.ccr.i = false → s.irqHold = false → s.run ≠ .stopped →
      (∀ src, s.interruptPending = some src ↔
        s.requests src = true ∧ ∀ o : IntSource, o.number < src.number → s.requests o = false) ∧
      (s.interruptPending = none ↔ ∀ src, s.requests src = false)) ∧
    (s.ccr.i = false → s.irqHold = false → s.run = .stopped →
      s.interruptPending =
        if s.requests .irq then some .irq else if s.requests .keyboard then some .keyboard else none) ∧
    (s.requests .irq =
      ((s.mods.irq.latch ||
        (s.mods.irq.levelMode && s.sim.irqEn && !(s.pins.irqVtst || s.pins.pta.getLsbD 2))) && !s.mods.irq.mask)) ∧
    (s.requests .tim0 = (s.mods.tim.ch0.flag && s.mods.tim.ch0.intEnable)) ∧
    (s.requests .tim1 = (s.mods.tim.ch1.flag && s.mods.tim.ch1.intEnable)) ∧
    (s.requests .timOverflow = (s.mods.tim.overflow && s.mods.tim.overflowEnable)) ∧
    (s.requests .keyboard =
      ((s.mods.kbi.flag ||
        (s.mods.kbi.levelMode && decide (s.pins.pta &&& s.pinsAs .keyboard ≠ s.pinsAs .keyboard))) &&
        !s.mods.kbi.mask)) ∧
    (s.requests .adc =
      (decide (s.cfg.variant ≠ .qt1 ∧ s.cfg.variant ≠ .qy1) && s.mods.adc.flag && s.mods.adc.intEnable)) ∧
    (IntSource.irq.vector = 0xFFFA#16 ∧ IntSource.tim0.vector = 0xFFF6#16 ∧ IntSource.tim1.vector = 0xFFF4#16 ∧
      IntSource.timOverflow.vector = 0xFFF2#16 ∧ IntSource.keyboard.vector = 0xFFE0#16 ∧
      IntSource.adc.vector = 0xFFDE#16)

/-- A break pending at a boundary, by BRKA, by the environment, or because PC equals BRKH:BRKL while the comparison is
enabled, is taken whatever I is, unless a reset is due: the SWI frame with the displaced instruction's own address as return
address, I set, PC from the SWI vector of the mode (R335, R346, D25). The comparison at the boundary is log 16, the break
before an interrupt log 43. -/
def Obligations.BreakEntry : Prop :=
  ∀ s : State,
    let q := s.takeInputs
    (q.breakPending = true ↔ q.brk.request = true ∨
      (q.brk.enable = true ∧ q.brk.phase = .idle ∧ q.run = .running ∧ q.pc = q.brk.addr)) ∧
    (q.resetPending = 0x00#8 → q.breakPending = true → Memory.wf q.mem = true → q.frameInRam →
      ∃ t, step s = .next t ∧ FrameOf q t q.pc ∧ t.ccr = { q.ccr with i := true } ∧
        t.pc = (match q.mode with
          | .user => joinBytes (q.byteAt 0xFFFC#16) (q.byteAt 0xFFFD#16)
          | .monitor => joinBytes (q.byteAt 0xFEFC#16) (q.byteAt 0xFEFD#16)) ∧
        t.run = .running ∧ t.a = q.a ∧ t.h = q.h ∧ t.x = q.x ∧ t.mode = q.mode ∧ t.sim = q.sim ∧ t.mods = q.mods ∧
        t.brk = { q.brk with request := false, phase := .serving })

/-- SWI: the frame with the address of the next instruction as return address and CCR with I as it was, then I set, PC from
the SWI vector of the mode; nothing else changes, whatever I was (R295, R331, R357). The opcode is log 40. -/
def Obligations.SoftwareInterrupt : Prop :=
  encode .swi = [0x83#8] ∧
  ∀ s : State, Memory.wf s.mem = true → s.frameInRam →
    ∃ t, exec .swi s = .next t ∧ FrameOf s t s.pc ∧ t.ccr = { s.ccr with i := true } ∧
      t.pc = (match s.mode with
        | .user => joinBytes (s.byteAt 0xFFFC#16) (s.byteAt 0xFFFD#16)
        | .monitor => joinBytes (s.byteAt 0xFEFC#16) (s.byteAt 0xFEFD#16)) ∧
      t.run = .running ∧ t.a = s.a ∧ t.h = s.h ∧ t.x = s.x ∧ t.mode = s.mode ∧ t.sim = s.sim ∧ t.mods = s.mods ∧
      t.brk = s.brk ∧ t.pins = s.pins

/-- RTI: CCR, A, X, PCH, PCL from the five bytes above SP, I included; SP five higher; H and memory as before; a break
routine ends (R282, R347). And the RUN of the monitor's host, where it is served in place of the next instruction: the CPU
goes to a PULH and an RTI in the monitor ROM (R134, R326, R358). The opcodes are log 40, the end of a break routine log 16,
where RUN is served log 39, the place of the two in the ROM log 54, and the model's own records that end with an instruction
logs 27, 33, 37. -/
def Obligations.ReturnFromInterrupt : Prop :=
  encode .rti = [0x80#8] ∧
  (∀ s : State, s.frameAbove →
    exec .rti s = .next
      { s with
        ccr := { v := (s.byteAt (s.sp + 1)).getLsbD 7, h := (s.byteAt (s.sp + 1)).getLsbD 4,
                 i := (s.byteAt (s.sp + 1)).getLsbD 3, n := (s.byteAt (s.sp + 1)).getLsbD 2,
                 z := (s.byteAt (s.sp + 1)).getLsbD 1, c := (s.byteAt (s.sp + 1)).getLsbD 0 }
        a := s.byteAt (s.sp + 2)
        x := s.byteAt (s.sp + 3)
        pc := joinBytes (s.byteAt (s.sp + 4)) (s.byteAt (s.sp + 5))
        sp := s.sp + 5
        brk := { s.brk with phase := if s.brk.phase = .serving then .returned else s.brk.phase } }) ∧
  (∀ s : State,
    let q := s.takeInputs
    q.resetPending = 0x00#8 → q.breakPending = false → q.interruptPending = none → q.run = .running →
    q.dueCommand = some .run →
    step s = .next
      { q with
        pc := BitVec.ofNat 16 monitorRunAt
        link := { q.link with command := none, entries := q.link.entries.tail }
        justStored := []
        written := []
        irqHold := false
        brk := { q.brk with phase := if q.brk.phase = .returned then .idle else q.brk.phase } }) ∧
  (0xFE10 ≤ monitorRunAt ∧ monitorRunAt + 1 < 0xFFB0 ∧ State.reset.mem.read monitorRunAt = 0x8A#8 ∧
    State.reset.mem.read (monitorRunAt + 1) = 0x80#8 ∧ encode .pulh = [0x8A#8])

/-- An RTI run on the frame an SWI left gives back A, X, CCR, SP and the return address (R282, R295, R333). -/
def Obligations.SwiThenRti : Prop :=
  ∀ s : State, Memory.wf s.mem = true → s.frameInRam →
    ∃ t u, exec .swi s = .next t ∧ exec .rti t = .next u ∧ u.a = s.a ∧ u.x = s.x ∧ u.h = s.h ∧ u.ccr = s.ccr ∧
      u.sp = s.sp ∧ u.pc = s.pc ∧ u.mode = s.mode

/-- WAIT, and STOP while it is enabled: I is cleared and the CPU waits or is stopped, nothing else changes (R296, R297); then,
while nothing is due at a boundary, a step lets the environment act and changes nothing else (R35; the idle step is log 34). -/
def Obligations.LowPower : Prop :=
  ∀ s : State,
    exec .wait s = .next { s with ccr := { s.ccr with i := false }, run := .waiting } ∧
    (s.sim.stopEnabled = true →
      exec .stop s = .next { s with ccr := { s.ccr with i := false }, run := .stopped }) ∧
    (s.takeInputs.run ≠ .running → s.takeInputs.resetPending = 0x00#8 → s.takeInputs.breakPending = false →
      s.takeInputs.interruptPending = none → step s = .next s.takeInputs)

/-! ### Data movement -/

/-- Direct, extended and indexed addressing without offset. Direct: one operand byte, the address is $00 and that byte.
Extended: two operand bytes, which are the address; below $0100 it reaches the byte the direct form reaches. Indexed: no
operand byte, the address is H:X, and H:X is not modified. LDA shows the access. -/
def Obligations.DirectExtendedIndexed : Prop :=
  ∀ (s : State) (dd : Byte) (hhll : Word),
    ((AddrMode.dir dd).ea s = 0x00#8 ++ dd ∧ (encode (.ldaDir dd)).length = 2 ∧
      (s.plainAt (0x00#8 ++ dd) → ∃ t, exec (.ldaDir dd) s = .next t ∧ t.a = s.byteAt (0x00#8 ++ dd))) ∧
    ((AddrMode.ext hhll).ea s = hhll ∧ (encode (.ldaExt hhll)).length = 3 ∧
      (s.plainAt hhll → ∃ t, exec (.ldaExt hhll) s = .next t ∧ t.a = s.byteAt hhll) ∧
      exec (.ldaExt (0x00#8 ++ dd)) s = exec (.ldaDir dd) s) ∧
    (AddrMode.ix.ea s = s.h ++ s.x ∧ (encode .ldaIx).length = 1 ∧
      (s.plainAt (s.h ++ s.x) →
        ∃ t, exec .ldaIx s = .next t ∧ t.a = s.byteAt (s.h ++ s.x) ∧ t.h = s.h ∧ t.x = s.x))

/-- LDA and LDX, all eight forms: the register takes the operand; V cleared, N and Z from it; the address is formed before
the register changes, as each mode says (R88 to R94, R120, R121, R123). Flag effects are general knowledge by the spec's own
marks (log 40); the wrap of the sums modulo 2^16 is D2 (log 30). -/
def Obligations.LoadRegister : Prop :=
  (∀ (s : State) (mode : AddrMode), mode.ea s = match mode with
    | .dir dd => 0x00#8 ++ dd
    | .ext hhll => hhll
    | .ix => s.h ++ s.x
    | .ix1 ff => s.h ++ s.x + (0x00#8 ++ ff)
    | .ix2 eeff => s.h ++ s.x + eeff
    | .sp1 ff => s.sp + (0x00#8 ++ ff)
    | .sp2 eeff => s.sp + eeff) ∧
  (∀ (o : Operand) (s : State) (m : Byte) (u : State), o.readable s → o.value s = (m, u) →
    ReadEffect s u ∧
    exec (ldaForm o) s = .next
      { u with a := m, ccr := { s.ccr with v := false, n := m.getLsbD 7, z := decide (m = 0x00#8) } } ∧
    exec (ldxForm o) s = .next
      { u with x := m, ccr := { s.ccr with v := false, n := m.getLsbD 7, z := decide (m = 0x00#8) } })

/-- STA and STX, all seven forms: the register is stored at EA(mode); V cleared, N and Z from it (R120, R124, R126). Flag
effects are general knowledge by the spec's own marks (log 40). -/
def Obligations.StoreRegister : Prop :=
  ∀ (m : AddrMode) (s : State), s.canWrite (m.ea s) = true →
    (exec (staForm m) s = .next
      { s.busWrite (m.ea s) s.a with
        ccr := { s.ccr with v := false, n := s.a.getLsbD 7, z := decide (s.a = 0x00#8) } } ∧
      (Memory.wf s.mem = true → StoreEffect s (m.ea s) s.a (s.busWrite (m.ea s) s.a))) ∧
    (exec (stxForm m) s = .next
      { s.busWrite (m.ea s) s.x with
        ccr := { s.ccr with v := false, n := s.x.getLsbD 7, z := decide (s.x = 0x00#8) } } ∧
      (Memory.wf s.mem = true → StoreEffect s (m.ea s) s.x (s.busWrite (m.ea s) s.x)))

/-- LDHX in both forms, and STHX. LDHX: H takes the high byte and X the low byte; N and Z from all 16 bits, V cleared. STHX:
H to the direct address, then X to the next; V cleared, N and Z from H:X; no other byte changes (R122, R125). Flag effects
are general knowledge by the spec's own marks (log 40). -/
def Obligations.LoadStoreIndex : Prop :=
  (∀ (o : Operand16) (s : State) (m : Word) (u : State), o.readable s → o.value s = (m, u) →
    ReadEffect s u ∧
    exec (ldhxForm o) s = .next
      { u with
        h := m.extractLsb' 8 8
        x := m.extractLsb' 0 8
        ccr := { s.ccr with v := false, n := m.getLsbD 15, z := decide (m = 0x0000#16) } }) ∧
  (∀ (dd : Byte) (s : State), s.canWrite (zext16 dd) = true → s.canWrite (zext16 dd + 1) = true →
    exec (.sthx dd) s = .next
      { (s.busWrite (zext16 dd) s.h).busWrite (zext16 dd + 1) s.x with
        ccr := { s.ccr with v := false, n := s.h.getLsbD 7, z := decide (s.h = 0x00#8 ∧ s.x = 0x00#8) } } ∧
    (Memory.wf s.mem = true →
      StoreEffect s (zext16 dd) s.h (s.busWrite (zext16 dd) s.h) ∧
      StoreEffect (s.busWrite (zext16 dd) s.h) (zext16 dd + 1) s.x
        ((s.busWrite (zext16 dd) s.h).busWrite (zext16 dd + 1) s.x)))

/-- The transfers between registers, and RSP: one register is written, no flag and no memory (R127, R128, R140, R142 to R144,
with STACK_XFER_ADJ as the parameter says). Flag effects are general knowledge by the spec's own marks (log 40).
STACK_XFER_ADJ is D7 (log 5). -/
def Obligations.RegisterTransfers : Prop :=
  ∀ s : State,
    exec .tax s = .next { s with x := s.a } ∧
    exec .txa s = .next { s with a := s.x } ∧
    exec .tpa s = .next { s with a := s.ccr.toByte } ∧
    exec .rsp s = .next { s with sp := s.sp.extractLsb' 8 8 ++ 0xFF#8 } ∧
    (s.cfg.stackXferAdj = false →
      exec .tsx s = .next { s with h := s.sp.extractLsb' 8 8, x := s.sp.extractLsb' 0 8 } ∧
      exec .txs s = .next { s with sp := s.h ++ s.x }) ∧
    (s.cfg.stackXferAdj = true →
      exec .tsx s = .next { s with h := (s.sp + 1).extractLsb' 8 8, x := (s.sp + 1).extractLsb' 0 8 } ∧
      exec .txs s = .next { s with sp := s.h ++ s.x - 1 }) ∧
    (∃ t, exec .tsx s = .next t ∧ exec .txs t = .next { t with sp := s.sp })

/-- MOV, its four forms: the source is read, then the destination written; H:X grows by one in the post-increment forms; V
cleared, N and Z from the byte; A is not touched (R97, R129). Flag effects are general knowledge by the spec's own marks (log
40). -/
def Obligations.MoveByte : Prop :=
  (∀ (ii dd : Byte) (s : State), s.canWrite (zext16 dd) = true →
    exec (.movImd ii dd) s = .next
      { s.busWrite (zext16 dd) ii with
        ccr := { s.ccr with v := false, n := ii.getLsbD 7, z := decide (ii = 0x00#8) } }) ∧
  (∀ (ss dd m : Byte) (s u : State), s.canRead (zext16 ss) = true → s.canWrite (zext16 dd) = true →
    s.busRead (zext16 ss) = (m, u) →
    ReadEffect s u ∧
    exec (.movDd ss dd) s = .next
      { u.busWrite (zext16 dd) m with
        ccr := { s.ccr with v := false, n := m.getLsbD 7, z := decide (m = 0x00#8) } }) ∧
  (∀ (dd m : Byte) (s u : State), s.canRead s.hx = true → s.canWrite (zext16 dd) = true → s.busRead s.hx = (m, u) →
    ReadEffect s u ∧
    exec (.movIxPlusD dd) s = .next
      { u.busWrite (zext16 dd) m with
        h := (s.h ++ s.x + 1#16).extractLsb' 8 8
        x := (s.h ++ s.x + 1#16).extractLsb' 0 8
        ccr := { s.ccr with v := false, n := m.getLsbD 7, z := decide (m = 0x00#8) } }) ∧
  (∀ (ss m : Byte) (s u : State), s.canRead (zext16 ss) = true → s.canWrite s.hx = true →
    s.busRead (zext16 ss) = (m, u) →
    ReadEffect s u ∧
    exec (.movDixPlus ss) s = .next
      { u.busWrite s.hx m with
        h := (s.h ++ s.x + 1#16).extractLsb' 8 8
        x := (s.h ++ s.x + 1#16).extractLsb' 0 8
        ccr := { s.ccr with v := false, n := m.getLsbD 7, z := decide (m = 0x00#8) } }) ∧
  (∀ (a : Word) (m : Byte) (u : State), Memory.wf u.mem = true → StoreEffect u a m (u.busWrite a m))

/-- PSHA, PSHH, PSHX, and PULA, PULH, PULX. A push stores the register at SP, then SP is one lower; a pull makes SP one
higher, then the byte there goes to the register; no flag and no other byte changes (R33, R130 to R135). Flag effects are
general knowledge by the spec's own marks (log 40). -/
def Obligations.PushPullRegister : Prop :=
  (∀ s : State, s.canWrite s.sp = true →
    exec .psha s = .next { s.busWrite s.sp s.a with sp := s.sp - 1 } ∧
    exec .pshh s = .next { s.busWrite s.sp s.h with sp := s.sp - 1 } ∧
    exec .pshx s = .next { s.busWrite s.sp s.x with sp := s.sp - 1 } ∧
    (Memory.wf s.mem = true → ∀ v, StoreEffect s s.sp v (s.busWrite s.sp v))) ∧
  (∀ (s u : State) (m : Byte), s.canRead (s.sp + 1) = true →
    ({ s with sp := s.sp + 1 } : State).busRead (s.sp + 1) = (m, u) →
    ReadEffect { s with sp := s.sp + 1 } u ∧
    exec .pula s = .next { u with a := m } ∧
    exec .pulh s = .next { u with h := m } ∧
    exec .pulx s = .next { u with x := m })

/-- CLR in its four memory forms, CLRA, CLRX, CLRH: $00 is written, nothing is read; V and N cleared, Z set, C kept (R136 to
R139, D23). TST in its four memory forms, TSTA, TSTX: V cleared, N and Z from the byte, C kept; nothing is written (R186 to
R188). Flag effects are general knowledge by the spec's own marks (log 40). The write without a read is D23 (log 30). -/
def Obligations.ClearAndTestForms : Prop :=
  ∀ s : State,
    (∀ m : MemForm, s.canWrite (m.mode.ea s) = true →
      exec (clrForm m) s = .next
        { s.busWrite (m.mode.ea s) 0x00#8 with ccr := { s.ccr with v := false, n := false, z := true } } ∧
      (Memory.wf s.mem = true → StoreEffect s (m.mode.ea s) 0x00#8 (s.busWrite (m.mode.ea s) 0x00#8))) ∧
    exec .clra s = .next { s with a := 0x00#8, ccr := { s.ccr with v := false, n := false, z := true } } ∧
    exec .clrx s = .next { s with x := 0x00#8, ccr := { s.ccr with v := false, n := false, z := true } } ∧
    exec .clrh s = .next { s with h := 0x00#8, ccr := { s.ccr with v := false, n := false, z := true } } ∧
    (∀ (f : MemForm) (m : Byte) (u : State), s.canRead (f.mode.ea s) = true → s.busRead (f.mode.ea s) = (m, u) →
      ReadEffect s u ∧
      exec (tstForm f) s = .next
        { u with ccr := { s.ccr with v := false, n := m.getLsbD 7, z := decide (m = 0x00#8) } }) ∧
    exec .tsta s = .next { s with ccr := { s.ccr with v := false, n := s.a.getLsbD 7, z := decide (s.a = 0x00#8) } } ∧
    exec .tstx s = .next { s with ccr := { s.ccr with v := false, n := s.x.getLsbD 7, z := decide (s.x = 0x00#8) } }

/-! ### Arithmetic -/

/-- ADD and ADC, all eight forms: the sum modulo 256, with the carry in for ADC; V, Hf, C by the bit formulas of R26, R27 and
R31, N and Z from the result (R160 to R162). Flag effects are general knowledge by the spec's own marks (log 40). -/
def Obligations.AddForms : Prop :=
  ∀ (o : Operand) (s : State) (m : Byte) (u : State), o.readable s → o.value s = (m, u) →
    let flags : Byte → Flags := fun r =>
      { v := (s.a.getLsbD 7 && m.getLsbD 7 && !r.getLsbD 7) || (!s.a.getLsbD 7 && !m.getLsbD 7 && r.getLsbD 7)
        h := (s.a.getLsbD 3 && m.getLsbD 3) || (m.getLsbD 3 && !r.getLsbD 3) || (!r.getLsbD 3 && s.a.getLsbD 3)
        i := s.ccr.i
        n := r.getLsbD 7
        z := decide (r = 0x00#8)
        c := (s.a.getLsbD 7 && m.getLsbD 7) || (m.getLsbD 7 && !r.getLsbD 7) || (!r.getLsbD 7 && s.a.getLsbD 7) }
    let cin : Byte := if s.ccr.c then 1#8 else 0#8
    ReadEffect s u ∧
    exec (addForm o) s = .next { u with a := s.a + m, ccr := flags (s.a + m) } ∧
    exec (adcForm o) s = .next { u with a := s.a + m + cin, ccr := flags (s.a + m + cin) }

/-- SUB, SBC, CMP, CPX, all eight forms: the difference modulo 256, with the borrow in for SBC; CMP and CPX store no result;
V and C by the bit formulas of R26 and R31, N and Z from the difference, Hf kept (R160, R171, R173, R184, R185). Flag effects
are general knowledge by the spec's own marks (log 40). -/
def Obligations.SubtractForms : Prop :=
  ∀ (o : Operand) (s : State) (m : Byte) (u : State), o.readable s → o.value s = (m, u) →
    let flags : Byte → Byte → Flags := fun a r =>
      { v := (a.getLsbD 7 && !m.getLsbD 7 && !r.getLsbD 7) || (!a.getLsbD 7 && m.getLsbD 7 && r.getLsbD 7)
        h := s.ccr.h
        i := s.ccr.i
        n := r.getLsbD 7
        z := decide (r = 0x00#8)
        c := (!a.getLsbD 7 && m.getLsbD 7) || (m.getLsbD 7 && r.getLsbD 7) || (r.getLsbD 7 && !a.getLsbD 7) }
    let bin : Byte := if s.ccr.c then 1#8 else 0#8
    ReadEffect s u ∧
    exec (subForm o) s = .next { u with a := s.a - m, ccr := flags s.a (s.a - m) } ∧
    exec (sbcForm o) s = .next { u with a := s.a - m - bin, ccr := flags s.a (s.a - m - bin) } ∧
    exec (cmpForm o) s = .next { u with ccr := flags s.a (s.a - m) } ∧
    exec (cpxForm o) s = .next { u with ccr := flags s.x (s.x - m) }

/-- CPHX, both forms: flags of the full 16-bit difference H:X - m, C its borrow; H:X unchanged (R172). Flag effects are
general knowledge by the spec's own marks (log 40). -/
def Obligations.CompareIndex : Prop :=
  ∀ (o : Operand16) (s : State) (m : Word) (u : State), o.readable s → o.value s = (m, u) →
    let hx : Word := s.h ++ s.x
    let r : Word := hx - m
    ReadEffect s u ∧
    exec (cphxForm o) s = .next
      { u with ccr :=
        { v := (hx.getLsbD 15 && !m.getLsbD 15 && !r.getLsbD 15) || (!hx.getLsbD 15 && m.getLsbD 15 && r.getLsbD 15)
          h := s.ccr.h
          i := s.ccr.i
          n := r.getLsbD 15
          z := decide (hx = m)
          c := decide (hx.toNat < m.toNat) } }

/-- INC and DEC of memory, of A and of X: the byte changes by one modulo 256; V for $7F to $80 or $80 to $7F alone, N and Z
from the result, C not written; H not carried into (R175 to R177, R179 to R181). Flag effects are general knowledge by the
spec's own marks (log 40). -/
def Obligations.IncrementDecrement : Prop :=
  ∀ s : State,
    let inc : Byte → Flags := fun m =>
      { s.ccr with v := decide (m = 0x7F#8), n := (m + 1#8).getLsbD 7, z := decide (m = 0xFF#8) }
    let dec : Byte → Flags := fun m =>
      { s.ccr with v := decide (m = 0x80#8), n := (m - 1#8).getLsbD 7, z := decide (m = 0x01#8) }
    (∀ (f : MemForm) (m : Byte) (u : State), s.canWrite (f.mode.ea s) = true → s.busRead (f.mode.ea s) = (m, u) →
      ReadEffect s u ∧
      exec (incForm f) s = .next { u.busWrite (f.mode.ea s) (m + 1#8) with ccr := inc m } ∧
      exec (decForm f) s = .next { u.busWrite (f.mode.ea s) (m - 1#8) with ccr := dec m } ∧
      (Memory.wf s.mem = true → StoreEffect u (f.mode.ea s) (m + 1#8) (u.busWrite (f.mode.ea s) (m + 1#8)) ∧
        StoreEffect u (f.mode.ea s) (m - 1#8) (u.busWrite (f.mode.ea s) (m - 1#8)))) ∧
    exec .inca s = .next { s with a := s.a + 1#8, ccr := inc s.a } ∧
    exec .incx s = .next { s with x := s.x + 1#8, ccr := inc s.x } ∧
    exec .deca s = .next { s with a := s.a - 1#8, ccr := dec s.a } ∧
    exec .decx s = .next { s with x := s.x - 1#8, ccr := dec s.x }

/-- MUL, NSA, AIS and AIX: the unsigned product to X:A with Hf and C cleared; the nibbles of A exchanged; the signed
immediate added to SP or to H:X modulo 2^16 with no flag (R163, R164, R182, R183). Flag effects are general knowledge by the
spec's own marks (log 40). -/
def Obligations.MultiplySwapAddImmediate : Prop :=
  ∀ (s : State) (ii : Byte),
    exec .mul s = .next
      { s with
        x := BitVec.ofNat 8 (s.x.toNat * s.a.toNat / 256)
        a := BitVec.ofNat 8 (s.x.toNat * s.a.toNat % 256)
        ccr := { s.ccr with h := false, c := false } } ∧
    exec .nsa s = .next { s with a := BitVec.ofNat 8 (s.a.toNat % 16 * 16 + s.a.toNat / 16) } ∧
    exec (.ais ii) s = .next { s with sp := BitVec.ofInt 16 ((s.sp.toNat : Int) + ii.toInt) } ∧
    exec (.aix ii) s = .next
      { s with
        h := (BitVec.ofInt 16 (((s.h ++ s.x).toNat : Int) + ii.toInt)).extractLsb' 8 8
        x := (BitVec.ofInt 16 (((s.h ++ s.x).toNat : Int) + ii.toInt)).extractLsb' 0 8 }

/-- DIV: quotient to A, remainder to H, C cleared, Z from the quotient, when X is not 0 and H < X; otherwise C is set and A,
H and Z are any value; X and the other flags are as before, and it never stops (R178, D8). Flag effects are general knowledge
by the spec's own marks (log 40). The overflow case is D8 (log 32). -/
def Obligations.Divide : Prop :=
  ∀ s : State,
    (s.h.toNat < s.x.toNat →
      ∃ t, exec .div s = .next t ∧ t.a.toNat * s.x.toNat + t.h.toNat = (s.h ++ s.a).toNat ∧
        t.h.toNat < s.x.toNat ∧
        t = { s with a := t.a, h := t.h, ccr := { s.ccr with c := false, z := decide (t.a = 0x00#8) } }) ∧
    (s.x.toNat ≤ s.h.toNat →
      exec .div s = .next
        { s with
          a := Config.freeByte s.free
          h := Config.freeByte (s.free + 1)
          ccr := { s.ccr with c := true, z := (Config.freeByte (s.free + 2)).getLsbD 0 }
          free := s.free + 3 })

/-- DAA. On the nine rows of R174's table, which an addition of two BCD bytes always leaves: the correction of R174's formula,
C the decimal carry, N and Z from the result. Outside them A, C, N and Z are any value. V is any value, Hf, I and the rest as
before (R174, D9). The table is general knowledge by the spec's own mark; the free values are log 31. -/
def Obligations.DecimalAdjust : Prop :=
  ∀ s : State,
    let hi := s.a.toNat / 16
    let lo := s.a.toNat % 16
    let row : Bool → Nat → Nat → Bool → Nat → Nat → Bool := fun c h0 h1 hf l0 l1 =>
      decide (s.ccr.c = c) && decide (h0 ≤ hi) && decide (hi ≤ h1) && decide (s.ccr.h = hf) && decide (l0 ≤ lo) &&
        decide (lo ≤ l1)
    let inTable := row false 0 9 false 0 9 || row false 0 8 false 10 15 || row false 0 9 true 0 3 ||
      row false 10 15 false 0 9 || row false 9 15 false 10 15 || row false 10 15 true 0 3 ||
      row true 0 2 false 0 9 || row true 0 2 false 10 15 || row true 0 3 true 0 3
    let carry := s.ccr.c || decide (9 < hi) || (decide (hi = 9) && decide (9 < lo))
    let corr : Byte := (if s.ccr.h || decide (9 < lo) then 0x06#8 else 0x00#8) ||| (if carry then 0x60#8 else 0x00#8)
    (inTable = true →
      exec .daa s = .next
        { s with
          a := s.a + corr
          ccr := { s.ccr with v := (Config.freeByte s.free).getLsbD 0, n := (s.a + corr).getLsbD 7,
                              z := decide (s.a + corr = 0x00#8), c := carry }
          free := s.free + 1 }) ∧
    (inTable = false →
      exec .daa s = .next
        { s with
          a := Config.freeByte (s.free + 1)
          ccr := { s.ccr with v := (Config.freeByte s.free).getLsbD 0, c := (Config.freeByte (s.free + 2)).getLsbD 0,
                              n := (Config.freeByte (s.free + 3)).getLsbD 0,
                              z := (Config.freeByte (s.free + 4)).getLsbD 0 }
          free := s.free + 5 }) ∧
    (∀ x y cin : Nat, x < 100 → y < 100 → cin ≤ 1 →
      (16 * (x / 10) + x % 10 + (16 * (y / 10) + y % 10) + cin) % 256 = s.a.toNat →
      (s.ccr.c = true ↔ 255 < 16 * (x / 10) + x % 10 + (16 * (y / 10) + y % 10) + cin) →
      (s.ccr.h = true ↔ 15 < x % 10 + y % 10 + cin) → inTable = true)

/-- Decimal addition: ADC of a BCD byte to a BCD byte in A, then DAA, leaves the BCD sum modulo 100 in A and the decimal
carry in C (R161, R174). The table of DAA is general knowledge by the spec's own mark (log 31). -/
def Obligations.DecimalAddition : Prop :=
  ∀ (s : State) (x y : Nat), x < 100 → y < 100 → s.a = BitVec.ofNat 8 (16 * (x / 10) + x % 10) →
    let sum := x + y + (if s.ccr.c then 1 else 0)
    ∃ t u, exec (.adcImm (BitVec.ofNat 8 (16 * (y / 10) + y % 10))) s = .next t ∧ exec .daa t = .next u ∧
      u.a = BitVec.ofNat 8 (16 * (sum % 100 / 10) + sum % 10) ∧ u.ccr.c = decide (100 ≤ sum) ∧
      u.ccr.z = decide (sum % 100 = 0)

/-! ### Logic -/

/-- AND, EOR, ORA and BIT, all eight forms: bit by bit; BIT stores no result; V cleared, N and Z from the result, C and Hf
kept (R200 to R202, R206, R216). Flag effects are general knowledge by the spec's own marks (log 40). -/
def Obligations.LogicForms : Prop :=
  ∀ (o : Operand) (s : State) (m : Byte) (u : State), o.readable s → o.value s = (m, u) →
    let flags : Byte → Flags := fun r => { s.ccr with v := false, n := r.getLsbD 7, z := decide (r = 0x00#8) }
    ReadEffect s u ∧
    exec (andForm o) s = .next { u with a := s.a &&& m, ccr := flags (s.a &&& m) } ∧
    exec (eorForm o) s = .next { u with a := s.a ^^^ m, ccr := flags (s.a ^^^ m) } ∧
    exec (oraForm o) s = .next { u with a := s.a ||| m, ccr := flags (s.a ||| m) } ∧
    exec (bitForm o) s = .next { u with ccr := flags (s.a &&& m) }

/-- NEG and COM of memory, of A and of X: 256 - m with C unless the result is $00 and V if it is $80; $FF - m with C set and
V cleared; N and Z from the result (R203 to R205, R213 to R215). Flag effects are general knowledge by the spec's own marks
(log 40). -/
def Obligations.NegateComplement : Prop :=
  ∀ s : State,
    let neg : Byte → Byte := fun m => BitVec.ofNat 8 (256 - m.toNat)
    let negF : Byte → Flags := fun m =>
      { s.ccr with v := decide (neg m = 0x80#8), n := (neg m).getLsbD 7, z := decide (neg m = 0x00#8),
                   c := decide (neg m ≠ 0x00#8) }
    let com : Byte → Byte := fun m => BitVec.ofNat 8 (255 - m.toNat)
    let comF : Byte → Flags := fun m =>
      { s.ccr with v := false, n := (com m).getLsbD 7, z := decide (com m = 0x00#8), c := true }
    (∀ (f : MemForm) (m : Byte) (u : State), s.canWrite (f.mode.ea s) = true → s.busRead (f.mode.ea s) = (m, u) →
      ReadEffect s u ∧
      exec (negForm f) s = .next { u.busWrite (f.mode.ea s) (neg m) with ccr := negF m } ∧
      exec (comForm f) s = .next { u.busWrite (f.mode.ea s) (com m) with ccr := comF m } ∧
      (Memory.wf s.mem = true → StoreEffect u (f.mode.ea s) (neg m) (u.busWrite (f.mode.ea s) (neg m)) ∧
        StoreEffect u (f.mode.ea s) (com m) (u.busWrite (f.mode.ea s) (com m)))) ∧
    exec .nega s = .next { s with a := neg s.a, ccr := negF s.a } ∧
    exec .negx s = .next { s with x := neg s.x, ccr := negF s.x } ∧
    exec .coma s = .next { s with a := com s.a, ccr := comF s.a } ∧
    exec .comx s = .next { s with x := com s.x, ccr := comF s.x }

/-- The shifts and rotates of memory, of A and of X, as arithmetic on the byte and C: the bit that leaves goes to C, N and Z
from the result, V = N xor C (R165 to R170, R207 to R212, R217 to R222). Flag effects are general knowledge by the spec's own
marks (log 40). -/
def Obligations.ShiftForms : Prop :=
  ∀ (s : State) (op : Byte → Byte) (out : Byte → Bool) (mem : MemForm → Instr) (onA onX : Instr),
    (mem, onA, onX, op, out) ∈
      [(lslForm, Instr.lsla, Instr.lslx, (fun m : Byte => BitVec.ofNat 8 (2 * m.toNat)),
          (fun m : Byte => decide (128 ≤ m.toNat))),
       (lsrForm, Instr.lsra, Instr.lsrx, (fun m : Byte => BitVec.ofNat 8 (m.toNat / 2)),
          (fun m : Byte => decide (m.toNat % 2 = 1))),
       (asrForm, Instr.asra, Instr.asrx, (fun m : Byte => BitVec.ofInt 8 (m.toInt / 2)),
          (fun m : Byte => decide (m.toNat % 2 = 1))),
       (rolForm, Instr.rola, Instr.rolx, (fun m : Byte => BitVec.ofNat 8 (2 * m.toNat + if s.ccr.c then 1 else 0)),
          (fun m : Byte => decide (128 ≤ m.toNat))),
       (rorForm, Instr.rora, Instr.rorx, (fun m : Byte => BitVec.ofNat 8 (m.toNat / 2 + if s.ccr.c then 128 else 0)),
          (fun m : Byte => decide (m.toNat % 2 = 1)))] →
    let flags : Byte → Flags := fun m =>
      { s.ccr with v := xor ((op m).getLsbD 7) (out m), n := (op m).getLsbD 7, z := decide (op m = 0x00#8), c := out m }
    (∀ (f : MemForm) (m : Byte) (u : State), s.canWrite (f.mode.ea s) = true → s.busRead (f.mode.ea s) = (m, u) →
      ReadEffect s u ∧
      exec (mem f) s = .next { u.busWrite (f.mode.ea s) (op m) with ccr := flags m } ∧
      (Memory.wf s.mem = true → StoreEffect u (f.mode.ea s) (op m) (u.busWrite (f.mode.ea s) (op m)))) ∧
    exec onA s = .next { s with a := op s.a, ccr := flags s.a } ∧
    exec onX s = .next { s with x := op s.x, ccr := flags s.x }

/-! ### Jumps, branches, calls -/

/-- The twenty simple branches: taken to the next instruction's address plus the signed offset exactly under the condition of
the rule, else PC is kept; nothing else changes (R230, R232 to R252, R254). The pin of BIH and BIL is D31 (log 42). -/
def Obligations.SimpleBranches : Prop :=
  ∀ (s : State) (rr : Byte) (i : Byte → Instr) (cond : Bool),
    (i, cond) ∈
      [(Instr.bra, true), (Instr.brn, false),
       (Instr.bcc, !s.ccr.c), (Instr.bcs, s.ccr.c), (Instr.bne, !s.ccr.z), (Instr.beq, s.ccr.z),
       (Instr.bhi, !(s.ccr.c || s.ccr.z)), (Instr.bls, s.ccr.c || s.ccr.z),
       (Instr.bpl, !s.ccr.n), (Instr.bmi, s.ccr.n), (Instr.bhcc, !s.ccr.h), (Instr.bhcs, s.ccr.h),
       (Instr.bmc, !s.ccr.i), (Instr.bms, s.ccr.i),
       (Instr.bge, s.ccr.n == s.ccr.v), (Instr.blt, s.ccr.n != s.ccr.v),
       (Instr.bgt, !s.ccr.z && (s.ccr.n == s.ccr.v)), (Instr.ble, s.ccr.z || (s.ccr.n != s.ccr.v)),
       (Instr.bih, s.pins.irqVtst || s.pins.pta.getLsbD 2), (Instr.bil, !(s.pins.irqVtst || s.pins.pta.getLsbD 2))] →
    exec (i rr) s = .next { s with pc := if cond then BitVec.ofInt 16 ((s.pc.toNat : Int) + rr.toInt) else s.pc }

/-- After CMP, in any form, the branches compare A with the operand as their names say: BGE, BLT, BGT, BLE as signed numbers,
BHI, BLS, BCC, BCS as unsigned, BEQ and BNE for equality (R171, R235, R236, R239, R240, R243 to R246). Flag effects are
general knowledge by the spec's own marks (log 40). -/
def Obligations.CompareThenBranch : Prop :=
  ∀ (o : Operand) (s : State) (m : Byte) (u : State) (rr : Byte), o.readable s → o.value s = (m, u) →
    ∃ t, exec (cmpForm o) s = .next t ∧ t.a = s.a ∧
      ∀ (i : Byte → Instr) (holds : Bool),
        (i, holds) ∈
          [(Instr.bge, decide (m.toInt ≤ s.a.toInt)), (Instr.blt, decide (s.a.toInt < m.toInt)),
           (Instr.bgt, decide (m.toInt < s.a.toInt)), (Instr.ble, decide (s.a.toInt ≤ m.toInt)),
           (Instr.bhi, decide (m.toNat < s.a.toNat)), (Instr.bls, decide (s.a.toNat ≤ m.toNat)),
           (Instr.bcc, decide (m.toNat ≤ s.a.toNat)), (Instr.bcs, decide (s.a.toNat < m.toNat)),
           (Instr.beq, decide (s.a = m)), (Instr.bne, decide (s.a ≠ m))] →
        exec (i rr) t = .next { t with pc := if holds then t.pc + rr.signExtend 16 else t.pc }

/-- BRSET and BRCLR: C takes the tested bit, taken or not; the branch is taken if the bit is 1, or 0; one read, no write
(R253, R255). Flag effects are general knowledge by the spec's own marks (log 40). -/
def Obligations.BitBranches : Prop :=
  ∀ (s u : State) (n : BitVec 3) (dd rr m : Byte), s.canRead (zext16 dd) = true → s.busRead (zext16 dd) = (m, u) →
    ReadEffect s u ∧
    exec (.brset n dd rr) s = .next
      { u with ccr := { s.ccr with c := m.getLsbD n.toNat },
               pc := if m.getLsbD n.toNat then s.pc + rr.signExtend 16 else s.pc } ∧
    exec (.brclr n dd rr) s = .next
      { u with ccr := { s.ccr with c := m.getLsbD n.toNat },
               pc := if m.getLsbD n.toNat then s.pc else s.pc + rr.signExtend 16 }

/-- BSET and BCLR: the bit becomes 1, or 0, the other seven are written back as read; no flag (R290, R291). Flag effects are
general knowledge by the spec's own marks (log 40). Read then write is log 30. -/
def Obligations.BitModify : Prop :=
  ∀ (s u : State) (n : BitVec 3) (dd m : Byte), s.canWrite (zext16 dd) = true → s.busRead (zext16 dd) = (m, u) →
    ReadEffect s u ∧
    ∃ r1 r0 : Byte,
      (∀ k, k < 8 → r1.getLsbD k = (m.getLsbD k || decide (k = n.toNat))) ∧
      (∀ k, k < 8 → r0.getLsbD k = (m.getLsbD k && !decide (k = n.toNat))) ∧
      exec (.bset n dd) s = .next (u.busWrite (zext16 dd) r1) ∧
      exec (.bclr n dd) s = .next (u.busWrite (zext16 dd) r0) ∧
      (Memory.wf s.mem = true → StoreEffect u (zext16 dd) r1 (u.busWrite (zext16 dd) r1) ∧
        StoreEffect u (zext16 dd) r0 (u.busWrite (zext16 dd) r0))

/-- CBEQ in its four forms, CBEQA, CBEQX: the branch is taken if the bytes are equal; H:X grows by one in the post-increment
forms, taken or not; no flag, no register else (R96, R256 to R258). Flag effects are general knowledge by the spec's own
marks (log 40). -/
def Obligations.CompareAndBranch : Prop :=
  ∀ (s : State) (rr : Byte),
    let target : Bool → Word := fun taken => if taken then s.pc + rr.signExtend 16 else s.pc
    (∀ (dd m : Byte) (u : State), s.canRead (zext16 dd) = true → s.busRead (zext16 dd) = (m, u) →
      ReadEffect s u ∧ exec (.cbeqDir dd rr) s = .next { u with pc := target (decide (s.a = m)) }) ∧
    (∀ (ff m : Byte) (u : State), s.canRead (s.sp + zext16 ff) = true → s.busRead (s.sp + zext16 ff) = (m, u) →
      ReadEffect s u ∧ exec (.cbeqSp1 ff rr) s = .next { u with pc := target (decide (s.a = m)) }) ∧
    (∀ (m : Byte) (u : State), s.canRead s.hx = true → s.busRead s.hx = (m, u) →
      ReadEffect s u ∧ exec (.cbeqIxPlus rr) s = .next
        { u with pc := target (decide (s.a = m)), h := (s.h ++ s.x + 1#16).extractLsb' 8 8,
                 x := (s.h ++ s.x + 1#16).extractLsb' 0 8 }) ∧
    (∀ (ff m : Byte) (u : State), s.canRead (s.hx + zext16 ff) = true → s.busRead (s.hx + zext16 ff) = (m, u) →
      ReadEffect s u ∧ exec (.cbeqIx1Plus ff rr) s = .next
        { u with pc := target (decide (s.a = m)), h := (s.h ++ s.x + 1#16).extractLsb' 8 8,
                 x := (s.h ++ s.x + 1#16).extractLsb' 0 8 }) ∧
    (∀ ii : Byte, exec (.cbeqa ii rr) s = .next { s with pc := target (decide (s.a = ii)) } ∧
      exec (.cbeqx ii rr) s = .next { s with pc := target (decide (s.x = ii)) })

/-- DBNZ in its four memory forms, DBNZA, DBNZX: one less modulo 256, the branch taken unless that is $00; no flag (R259 to
R261). Flag effects are general knowledge by the spec's own marks (log 40). -/
def Obligations.DecrementAndBranch : Prop :=
  ∀ (s : State) (rr : Byte),
    let target : Byte → Word := fun r => if r = 0x00#8 then s.pc else s.pc + rr.signExtend 16
    (∀ (f : MemForm) (m : Byte) (u : State), s.canWrite (f.mode.ea s) = true → s.busRead (f.mode.ea s) = (m, u) →
      ReadEffect s u ∧
      exec (match f with | .dir dd => .dbnzDir dd rr | .ix1 ff => .dbnzIx1 ff rr | .ix => .dbnzIx rr | .sp1 ff => .dbnzSp1 ff rr) s =
        .next { u.busWrite (f.mode.ea s) (m - 1#8) with pc := target (m - 1#8) } ∧
      (Memory.wf s.mem = true → StoreEffect u (f.mode.ea s) (m - 1#8) (u.busWrite (f.mode.ea s) (m - 1#8)))) ∧
    exec (.dbnza rr) s = .next { s with a := s.a - 1#8, pc := target (s.a - 1#8) } ∧
    exec (.dbnzx rr) s = .next { s with x := s.x - 1#8, pc := target (s.x - 1#8) }

/-- JMP, its five forms: PC becomes the effective address itself, nothing is read, nothing else changes (R231, C11). That the
address itself is the target is C11. -/
def Obligations.JumpForms : Prop :=
  ∀ s : State,
    (∀ dd : Byte, exec (.jmpDir dd) s = .next { s with pc := 0x00#8 ++ dd }) ∧
    (∀ a : Word, exec (.jmpExt a) s = .next { s with pc := a }) ∧
    (∀ a : Word, exec (.jmpIx2 a) s = .next { s with pc := s.h ++ s.x + a }) ∧
    (∀ ff : Byte, exec (.jmpIx1 ff) s = .next { s with pc := s.h ++ s.x + (0x00#8 ++ ff) }) ∧
    exec .jmpIx s = .next { s with pc := s.h ++ s.x }

/-- JSR, its five forms, and BSR: the return address is pushed, low byte first, so that it lies high byte at the lower
address; then PC is the target, computed before; an RTS at the target comes back with SP as it was. RTS in general: PCH, then
PCL, from the two bytes above SP, SP two higher, nothing else changes (R280, R281, R283). -/
def Obligations.CallAndReturn : Prop :=
  (∀ (s : State) (i : Instr) (target : Word),
    ((∃ f : JumpForm, i = jsrForm f ∧ target = f.mode.ea s) ∨
      (∃ rr : Byte, i = .bsr rr ∧ target = s.pc + rr.signExtend 16)) →
    Memory.wf s.mem = true → s.ramAt s.sp → s.ramAt (s.sp - 1) →
    ∃ t u, exec i s = .next t ∧ t.pc = target ∧ t.sp = s.sp - 2 ∧
      t.byteAt s.sp = loByte s.pc ∧ t.byteAt (s.sp - 1) = hiByte s.pc ∧
      (∀ b, b ≠ s.sp → b ≠ s.sp - 1 → t.byteAt b = s.byteAt b) ∧
      t = { s with pc := t.pc, sp := t.sp, mem := t.mem, justStored := t.justStored, written := t.written } ∧
      exec .rts t = .next u ∧ u = { t with pc := s.pc, sp := s.sp }) ∧
  (∀ s : State, s.plainAt (s.sp + 1) → s.plainAt (s.sp + 2) →
    exec .rts s = .next { s with pc := s.byteAt (s.sp + 1) ++ s.byteAt (s.sp + 2), sp := s.sp + 2 })

/-! ### Control -/

/-- TAP, CLC, SEC, CLI, SEI, NOP: the flags each names and no other; TAP ignores bits 6 and 5; after a CLI or TAP that clears
I the next boundary takes no interrupt exactly if CLI_DELAY is 1 (R141, R298 to R302, D13). The hold is D13 (log 33). -/
def Obligations.ConditionCodeControl : Prop :=
  ∀ s : State,
    exec .nop s = .next s ∧
    exec .clc s = .next { s with ccr := { s.ccr with c := false } } ∧
    exec .sec s = .next { s with ccr := { s.ccr with c := true } } ∧
    exec .sei s = .next { s with ccr := { s.ccr with i := true } } ∧
    exec .cli s = .next { s with ccr := { s.ccr with i := false }, irqHold := s.ccr.i && s.cfg.cliDelay } ∧
    exec .tap s = .next
      { s with
        ccr := { v := s.a.getLsbD 7, h := s.a.getLsbD 4, i := s.a.getLsbD 3, n := s.a.getLsbD 2, z := s.a.getLsbD 1,
                 c := s.a.getLsbD 0 }
        irqHold := s.ccr.i && !s.a.getLsbD 3 && s.cfg.cliDelay }

/-- The prefix $9E run as a term of its own: with plain bytes at PC it runs the instruction they and the prefix decode to, an
illegal one included; for $E6 that loads A from SP plus the offset (R98, R103, R104). A prefix as a term of its own is the
model's choice (log 28). -/
def Obligations.PrefixRunsPage2 : Prop :=
  ∀ (s : State), s.plainAt s.pc → s.plainAt (s.pc + 1) → s.plainAt (s.pc + 2) →
    (∀ (i : Instr) (rest : List Byte),
      decode [0x9E#8, s.byteAt s.pc, s.byteAt (s.pc + 1), s.byteAt (s.pc + 2)] = .ok (i, rest) →
      exec .page2Prefix s = exec i { s with pc := s.pc + BitVec.ofNat 16 ((encode i).length - 1) }) ∧
    (s.byteAt s.pc = 0xE6#8 → s.plainAt (s.sp + zext16 (s.byteAt (s.pc + 1))) →
      exec .page2Prefix s = .next
        { s with
          pc := s.pc + 2
          a := s.byteAt (s.sp + zext16 (s.byteAt (s.pc + 1)))
          ccr := { s.ccr with v := false, n := (s.byteAt (s.sp + zext16 (s.byteAt (s.pc + 1)))).getLsbD 7,
                              z := decide (s.byteAt (s.sp + zext16 (s.byteAt (s.pc + 1))) = 0x00#8) } })
end

