-- ==== Sys2Proof/Laws/State.lean ====
section
/-! SUPPORT. One lemma per field of State and update of State, so that no proof unfolds a record update. -/

namespace Sys2Proof.Machine

@[simp] theorem State.setA_a (s : State) (v : Byte) : (s.setA v).a = v := rfl
@[simp] theorem State.setA_h (s : State) (v : Byte) : (s.setA v).h = s.h := rfl
@[simp] theorem State.setA_x (s : State) (v : Byte) : (s.setA v).x = s.x := rfl
@[simp] theorem State.setA_sp (s : State) (v : Byte) : (s.setA v).sp = s.sp := rfl
@[simp] theorem State.setA_pc (s : State) (v : Byte) : (s.setA v).pc = s.pc := rfl
@[simp] theorem State.setA_ccr (s : State) (v : Byte) : (s.setA v).ccr = s.ccr := rfl
@[simp] theorem State.setA_run (s : State) (v : Byte) : (s.setA v).run = s.run := rfl
@[simp] theorem State.setA_mode (s : State) (v : Byte) : (s.setA v).mode = s.mode := rfl
@[simp] theorem State.setA_irqHold (s : State) (v : Byte) : (s.setA v).irqHold = s.irqHold := rfl
@[simp] theorem State.setA_mem (s : State) (v : Byte) : (s.setA v).mem = s.mem := rfl
@[simp] theorem State.setA_sim (s : State) (v : Byte) : (s.setA v).sim = s.sim := rfl
@[simp] theorem State.setA_brk (s : State) (v : Byte) : (s.setA v).brk = s.brk := rfl
@[simp] theorem State.setA_mods (s : State) (v : Byte) : (s.setA v).mods = s.mods := rfl
@[simp] theorem State.setA_pins (s : State) (v : Byte) : (s.setA v).pins = s.pins := rfl
@[simp] theorem State.setA_link (s : State) (v : Byte) : (s.setA v).link = s.link := rfl
@[simp] theorem State.setA_cfg (s : State) (v : Byte) : (s.setA v).cfg = s.cfg := rfl
@[simp] theorem State.setA_free (s : State) (v : Byte) : (s.setA v).free = s.free := rfl
@[simp] theorem State.setA_justStored (s : State) (v : Byte) : (s.setA v).justStored = s.justStored := rfl
@[simp] theorem State.setA_written (s : State) (v : Byte) : (s.setA v).written = s.written := rfl
@[simp] theorem State.setA_inputs (s : State) (v : Byte) : (s.setA v).inputs = s.inputs := rfl
@[simp] theorem State.setA_midInputs (s : State) (v : Byte) : (s.setA v).midInputs = s.midInputs := rfl

@[simp] theorem State.setH_a (s : State) (v : Byte) : (s.setH v).a = s.a := rfl
@[simp] theorem State.setH_h (s : State) (v : Byte) : (s.setH v).h = v := rfl
@[simp] theorem State.setH_x (s : State) (v : Byte) : (s.setH v).x = s.x := rfl
@[simp] theorem State.setH_sp (s : State) (v : Byte) : (s.setH v).sp = s.sp := rfl
@[simp] theorem State.setH_pc (s : State) (v : Byte) : (s.setH v).pc = s.pc := rfl
@[simp] theorem State.setH_ccr (s : State) (v : Byte) : (s.setH v).ccr = s.ccr := rfl
@[simp] theorem State.setH_run (s : State) (v : Byte) : (s.setH v).run = s.run := rfl
@[simp] theorem State.setH_mode (s : State) (v : Byte) : (s.setH v).mode = s.mode := rfl
@[simp] theorem State.setH_irqHold (s : State) (v : Byte) : (s.setH v).irqHold = s.irqHold := rfl
@[simp] theorem State.setH_mem (s : State) (v : Byte) : (s.setH v).mem = s.mem := rfl
@[simp] theorem State.setH_sim (s : State) (v : Byte) : (s.setH v).sim = s.sim := rfl
@[simp] theorem State.setH_brk (s : State) (v : Byte) : (s.setH v).brk = s.brk := rfl
@[simp] theorem State.setH_mods (s : State) (v : Byte) : (s.setH v).mods = s.mods := rfl
@[simp] theorem State.setH_pins (s : State) (v : Byte) : (s.setH v).pins = s.pins := rfl
@[simp] theorem State.setH_link (s : State) (v : Byte) : (s.setH v).link = s.link := rfl
@[simp] theorem State.setH_cfg (s : State) (v : Byte) : (s.setH v).cfg = s.cfg := rfl
@[simp] theorem State.setH_free (s : State) (v : Byte) : (s.setH v).free = s.free := rfl
@[simp] theorem State.setH_justStored (s : State) (v : Byte) : (s.setH v).justStored = s.justStored := rfl
@[simp] theorem State.setH_written (s : State) (v : Byte) : (s.setH v).written = s.written := rfl
@[simp] theorem State.setH_inputs (s : State) (v : Byte) : (s.setH v).inputs = s.inputs := rfl
@[simp] theorem State.setH_midInputs (s : State) (v : Byte) : (s.setH v).midInputs = s.midInputs := rfl

@[simp] theorem State.setX_a (s : State) (v : Byte) : (s.setX v).a = s.a := rfl
@[simp] theorem State.setX_h (s : State) (v : Byte) : (s.setX v).h = s.h := rfl
@[simp] theorem State.setX_x (s : State) (v : Byte) : (s.setX v).x = v := rfl
@[simp] theorem State.setX_sp (s : State) (v : Byte) : (s.setX v).sp = s.sp := rfl
@[simp] theorem State.setX_pc (s : State) (v : Byte) : (s.setX v).pc = s.pc := rfl
@[simp] theorem State.setX_ccr (s : State) (v : Byte) : (s.setX v).ccr = s.ccr := rfl
@[simp] theorem State.setX_run (s : State) (v : Byte) : (s.setX v).run = s.run := rfl
@[simp] theorem State.setX_mode (s : State) (v : Byte) : (s.setX v).mode = s.mode := rfl
@[simp] theorem State.setX_irqHold (s : State) (v : Byte) : (s.setX v).irqHold = s.irqHold := rfl
@[simp] theorem State.setX_mem (s : State) (v : Byte) : (s.setX v).mem = s.mem := rfl
@[simp] theorem State.setX_sim (s : State) (v : Byte) : (s.setX v).sim = s.sim := rfl
@[simp] theorem State.setX_brk (s : State) (v : Byte) : (s.setX v).brk = s.brk := rfl
@[simp] theorem State.setX_mods (s : State) (v : Byte) : (s.setX v).mods = s.mods := rfl
@[simp] theorem State.setX_pins (s : State) (v : Byte) : (s.setX v).pins = s.pins := rfl
@[simp] theorem State.setX_link (s : State) (v : Byte) : (s.setX v).link = s.link := rfl
@[simp] theorem State.setX_cfg (s : State) (v : Byte) : (s.setX v).cfg = s.cfg := rfl
@[simp] theorem State.setX_free (s : State) (v : Byte) : (s.setX v).free = s.free := rfl
@[simp] theorem State.setX_justStored (s : State) (v : Byte) : (s.setX v).justStored = s.justStored := rfl
@[simp] theorem State.setX_written (s : State) (v : Byte) : (s.setX v).written = s.written := rfl
@[simp] theorem State.setX_inputs (s : State) (v : Byte) : (s.setX v).inputs = s.inputs := rfl
@[simp] theorem State.setX_midInputs (s : State) (v : Byte) : (s.setX v).midInputs = s.midInputs := rfl

@[simp] theorem State.setHX_a (s : State) (v : Word) : (s.setHX v).a = s.a := rfl
@[simp] theorem State.setHX_h (s : State) (v : Word) : (s.setHX v).h = hiByte v := rfl
@[simp] theorem State.setHX_x (s : State) (v : Word) : (s.setHX v).x = loByte v := rfl
@[simp] theorem State.setHX_sp (s : State) (v : Word) : (s.setHX v).sp = s.sp := rfl
@[simp] theorem State.setHX_pc (s : State) (v : Word) : (s.setHX v).pc = s.pc := rfl
@[simp] theorem State.setHX_ccr (s : State) (v : Word) : (s.setHX v).ccr = s.ccr := rfl
@[simp] theorem State.setHX_run (s : State) (v : Word) : (s.setHX v).run = s.run := rfl
@[simp] theorem State.setHX_mode (s : State) (v : Word) : (s.setHX v).mode = s.mode := rfl
@[simp] theorem State.setHX_irqHold (s : State) (v : Word) : (s.setHX v).irqHold = s.irqHold := rfl
@[simp] theorem State.setHX_mem (s : State) (v : Word) : (s.setHX v).mem = s.mem := rfl
@[simp] theorem State.setHX_sim (s : State) (v : Word) : (s.setHX v).sim = s.sim := rfl
@[simp] theorem State.setHX_brk (s : State) (v : Word) : (s.setHX v).brk = s.brk := rfl
@[simp] theorem State.setHX_mods (s : State) (v : Word) : (s.setHX v).mods = s.mods := rfl
@[simp] theorem State.setHX_pins (s : State) (v : Word) : (s.setHX v).pins = s.pins := rfl
@[simp] theorem State.setHX_link (s : State) (v : Word) : (s.setHX v).link = s.link := rfl
@[simp] theorem State.setHX_cfg (s : State) (v : Word) : (s.setHX v).cfg = s.cfg := rfl
@[simp] theorem State.setHX_free (s : State) (v : Word) : (s.setHX v).free = s.free := rfl
@[simp] theorem State.setHX_justStored (s : State) (v : Word) : (s.setHX v).justStored = s.justStored := rfl
@[simp] theorem State.setHX_written (s : State) (v : Word) : (s.setHX v).written = s.written := rfl
@[simp] theorem State.setHX_inputs (s : State) (v : Word) : (s.setHX v).inputs = s.inputs := rfl
@[simp] theorem State.setHX_midInputs (s : State) (v : Word) : (s.setHX v).midInputs = s.midInputs := rfl

@[simp] theorem State.setSp_a (s : State) (v : Word) : (s.setSp v).a = s.a := rfl
@[simp] theorem State.setSp_h (s : State) (v : Word) : (s.setSp v).h = s.h := rfl
@[simp] theorem State.setSp_x (s : State) (v : Word) : (s.setSp v).x = s.x := rfl
@[simp] theorem State.setSp_sp (s : State) (v : Word) : (s.setSp v).sp = v := rfl
@[simp] theorem State.setSp_pc (s : State) (v : Word) : (s.setSp v).pc = s.pc := rfl
@[simp] theorem State.setSp_ccr (s : State) (v : Word) : (s.setSp v).ccr = s.ccr := rfl
@[simp] theorem State.setSp_run (s : State) (v : Word) : (s.setSp v).run = s.run := rfl
@[simp] theorem State.setSp_mode (s : State) (v : Word) : (s.setSp v).mode = s.mode := rfl
@[simp] theorem State.setSp_irqHold (s : State) (v : Word) : (s.setSp v).irqHold = s.irqHold := rfl
@[simp] theorem State.setSp_mem (s : State) (v : Word) : (s.setSp v).mem = s.mem := rfl
@[simp] theorem State.setSp_sim (s : State) (v : Word) : (s.setSp v).sim = s.sim := rfl
@[simp] theorem State.setSp_brk (s : State) (v : Word) : (s.setSp v).brk = s.brk := rfl
@[simp] theorem State.setSp_mods (s : State) (v : Word) : (s.setSp v).mods = s.mods := rfl
@[simp] theorem State.setSp_pins (s : State) (v : Word) : (s.setSp v).pins = s.pins := rfl
@[simp] theorem State.setSp_link (s : State) (v : Word) : (s.setSp v).link = s.link := rfl
@[simp] theorem State.setSp_cfg (s : State) (v : Word) : (s.setSp v).cfg = s.cfg := rfl
@[simp] theorem State.setSp_free (s : State) (v : Word) : (s.setSp v).free = s.free := rfl
@[simp] theorem State.setSp_justStored (s : State) (v : Word) : (s.setSp v).justStored = s.justStored := rfl
@[simp] theorem State.setSp_written (s : State) (v : Word) : (s.setSp v).written = s.written := rfl
@[simp] theorem State.setSp_inputs (s : State) (v : Word) : (s.setSp v).inputs = s.inputs := rfl
@[simp] theorem State.setSp_midInputs (s : State) (v : Word) : (s.setSp v).midInputs = s.midInputs := rfl

@[simp] theorem State.setPc_a (s : State) (v : Word) : (s.setPc v).a = s.a := rfl
@[simp] theorem State.setPc_h (s : State) (v : Word) : (s.setPc v).h = s.h := rfl
@[simp] theorem State.setPc_x (s : State) (v : Word) : (s.setPc v).x = s.x := rfl
@[simp] theorem State.setPc_sp (s : State) (v : Word) : (s.setPc v).sp = s.sp := rfl
@[simp] theorem State.setPc_pc (s : State) (v : Word) : (s.setPc v).pc = v := rfl
@[simp] theorem State.setPc_ccr (s : State) (v : Word) : (s.setPc v).ccr = s.ccr := rfl
@[simp] theorem State.setPc_run (s : State) (v : Word) : (s.setPc v).run = s.run := rfl
@[simp] theorem State.setPc_mode (s : State) (v : Word) : (s.setPc v).mode = s.mode := rfl
@[simp] theorem State.setPc_irqHold (s : State) (v : Word) : (s.setPc v).irqHold = s.irqHold := rfl
@[simp] theorem State.setPc_mem (s : State) (v : Word) : (s.setPc v).mem = s.mem := rfl
@[simp] theorem State.setPc_sim (s : State) (v : Word) : (s.setPc v).sim = s.sim := rfl
@[simp] theorem State.setPc_brk (s : State) (v : Word) : (s.setPc v).brk = s.brk := rfl
@[simp] theorem State.setPc_mods (s : State) (v : Word) : (s.setPc v).mods = s.mods := rfl
@[simp] theorem State.setPc_pins (s : State) (v : Word) : (s.setPc v).pins = s.pins := rfl
@[simp] theorem State.setPc_link (s : State) (v : Word) : (s.setPc v).link = s.link := rfl
@[simp] theorem State.setPc_cfg (s : State) (v : Word) : (s.setPc v).cfg = s.cfg := rfl
@[simp] theorem State.setPc_free (s : State) (v : Word) : (s.setPc v).free = s.free := rfl
@[simp] theorem State.setPc_justStored (s : State) (v : Word) : (s.setPc v).justStored = s.justStored := rfl
@[simp] theorem State.setPc_written (s : State) (v : Word) : (s.setPc v).written = s.written := rfl
@[simp] theorem State.setPc_inputs (s : State) (v : Word) : (s.setPc v).inputs = s.inputs := rfl
@[simp] theorem State.setPc_midInputs (s : State) (v : Word) : (s.setPc v).midInputs = s.midInputs := rfl

@[simp] theorem State.setCcr_a (s : State) (v : Flags) : (s.setCcr v).a = s.a := rfl
@[simp] theorem State.setCcr_h (s : State) (v : Flags) : (s.setCcr v).h = s.h := rfl
@[simp] theorem State.setCcr_x (s : State) (v : Flags) : (s.setCcr v).x = s.x := rfl
@[simp] theorem State.setCcr_sp (s : State) (v : Flags) : (s.setCcr v).sp = s.sp := rfl
@[simp] theorem State.setCcr_pc (s : State) (v : Flags) : (s.setCcr v).pc = s.pc := rfl
@[simp] theorem State.setCcr_ccr (s : State) (v : Flags) : (s.setCcr v).ccr = v := rfl
@[simp] theorem State.setCcr_run (s : State) (v : Flags) : (s.setCcr v).run = s.run := rfl
@[simp] theorem State.setCcr_mode (s : State) (v : Flags) : (s.setCcr v).mode = s.mode := rfl
@[simp] theorem State.setCcr_irqHold (s : State) (v : Flags) : (s.setCcr v).irqHold = s.irqHold := rfl
@[simp] theorem State.setCcr_mem (s : State) (v : Flags) : (s.setCcr v).mem = s.mem := rfl
@[simp] theorem State.setCcr_sim (s : State) (v : Flags) : (s.setCcr v).sim = s.sim := rfl
@[simp] theorem State.setCcr_brk (s : State) (v : Flags) : (s.setCcr v).brk = s.brk := rfl
@[simp] theorem State.setCcr_mods (s : State) (v : Flags) : (s.setCcr v).mods = s.mods := rfl
@[simp] theorem State.setCcr_pins (s : State) (v : Flags) : (s.setCcr v).pins = s.pins := rfl
@[simp] theorem State.setCcr_link (s : State) (v : Flags) : (s.setCcr v).link = s.link := rfl
@[simp] theorem State.setCcr_cfg (s : State) (v : Flags) : (s.setCcr v).cfg = s.cfg := rfl
@[simp] theorem State.setCcr_free (s : State) (v : Flags) : (s.setCcr v).free = s.free := rfl
@[simp] theorem State.setCcr_justStored (s : State) (v : Flags) : (s.setCcr v).justStored = s.justStored := rfl
@[simp] theorem State.setCcr_written (s : State) (v : Flags) : (s.setCcr v).written = s.written := rfl
@[simp] theorem State.setCcr_inputs (s : State) (v : Flags) : (s.setCcr v).inputs = s.inputs := rfl
@[simp] theorem State.setCcr_midInputs (s : State) (v : Flags) : (s.setCcr v).midInputs = s.midInputs := rfl

@[simp] theorem State.setRun_a (s : State) (v : RunState) : (s.setRun v).a = s.a := rfl
@[simp] theorem State.setRun_h (s : State) (v : RunState) : (s.setRun v).h = s.h := rfl
@[simp] theorem State.setRun_x (s : State) (v : RunState) : (s.setRun v).x = s.x := rfl
@[simp] theorem State.setRun_sp (s : State) (v : RunState) : (s.setRun v).sp = s.sp := rfl
@[simp] theorem State.setRun_pc (s : State) (v : RunState) : (s.setRun v).pc = s.pc := rfl
@[simp] theorem State.setRun_ccr (s : State) (v : RunState) : (s.setRun v).ccr = s.ccr := rfl
@[simp] theorem State.setRun_run (s : State) (v : RunState) : (s.setRun v).run = v := rfl
@[simp] theorem State.setRun_mode (s : State) (v : RunState) : (s.setRun v).mode = s.mode := rfl
@[simp] theorem State.setRun_irqHold (s : State) (v : RunState) : (s.setRun v).irqHold = s.irqHold := rfl
@[simp] theorem State.setRun_mem (s : State) (v : RunState) : (s.setRun v).mem = s.mem := rfl
@[simp] theorem State.setRun_sim (s : State) (v : RunState) : (s.setRun v).sim = s.sim := rfl
@[simp] theorem State.setRun_brk (s : State) (v : RunState) : (s.setRun v).brk = s.brk := rfl
@[simp] theorem State.setRun_mods (s : State) (v : RunState) : (s.setRun v).mods = s.mods := rfl
@[simp] theorem State.setRun_pins (s : State) (v : RunState) : (s.setRun v).pins = s.pins := rfl
@[simp] theorem State.setRun_link (s : State) (v : RunState) : (s.setRun v).link = s.link := rfl
@[simp] theorem State.setRun_cfg (s : State) (v : RunState) : (s.setRun v).cfg = s.cfg := rfl
@[simp] theorem State.setRun_free (s : State) (v : RunState) : (s.setRun v).free = s.free := rfl
@[simp] theorem State.setRun_justStored (s : State) (v : RunState) : (s.setRun v).justStored = s.justStored := rfl
@[simp] theorem State.setRun_written (s : State) (v : RunState) : (s.setRun v).written = s.written := rfl
@[simp] theorem State.setRun_inputs (s : State) (v : RunState) : (s.setRun v).inputs = s.inputs := rfl
@[simp] theorem State.setRun_midInputs (s : State) (v : RunState) : (s.setRun v).midInputs = s.midInputs := rfl

@[simp] theorem State.setIrqHold_a (s : State) (v : Bool) : (s.setIrqHold v).a = s.a := rfl
@[simp] theorem State.setIrqHold_h (s : State) (v : Bool) : (s.setIrqHold v).h = s.h := rfl
@[simp] theorem State.setIrqHold_x (s : State) (v : Bool) : (s.setIrqHold v).x = s.x := rfl
@[simp] theorem State.setIrqHold_sp (s : State) (v : Bool) : (s.setIrqHold v).sp = s.sp := rfl
@[simp] theorem State.setIrqHold_pc (s : State) (v : Bool) : (s.setIrqHold v).pc = s.pc := rfl
@[simp] theorem State.setIrqHold_ccr (s : State) (v : Bool) : (s.setIrqHold v).ccr = s.ccr := rfl
@[simp] theorem State.setIrqHold_run (s : State) (v : Bool) : (s.setIrqHold v).run = s.run := rfl
@[simp] theorem State.setIrqHold_mode (s : State) (v : Bool) : (s.setIrqHold v).mode = s.mode := rfl
@[simp] theorem State.setIrqHold_irqHold (s : State) (v : Bool) : (s.setIrqHold v).irqHold = v := rfl
@[simp] theorem State.setIrqHold_mem (s : State) (v : Bool) : (s.setIrqHold v).mem = s.mem := rfl
@[simp] theorem State.setIrqHold_sim (s : State) (v : Bool) : (s.setIrqHold v).sim = s.sim := rfl
@[simp] theorem State.setIrqHold_brk (s : State) (v : Bool) : (s.setIrqHold v).brk = s.brk := rfl
@[simp] theorem State.setIrqHold_mods (s : State) (v : Bool) : (s.setIrqHold v).mods = s.mods := rfl
@[simp] theorem State.setIrqHold_pins (s : State) (v : Bool) : (s.setIrqHold v).pins = s.pins := rfl
@[simp] theorem State.setIrqHold_link (s : State) (v : Bool) : (s.setIrqHold v).link = s.link := rfl
@[simp] theorem State.setIrqHold_cfg (s : State) (v : Bool) : (s.setIrqHold v).cfg = s.cfg := rfl
@[simp] theorem State.setIrqHold_free (s : State) (v : Bool) : (s.setIrqHold v).free = s.free := rfl
@[simp] theorem State.setIrqHold_justStored (s : State) (v : Bool) : (s.setIrqHold v).justStored = s.justStored := rfl
@[simp] theorem State.setIrqHold_written (s : State) (v : Bool) : (s.setIrqHold v).written = s.written := rfl
@[simp] theorem State.setIrqHold_inputs (s : State) (v : Bool) : (s.setIrqHold v).inputs = s.inputs := rfl
@[simp] theorem State.setIrqHold_midInputs (s : State) (v : Bool) : (s.setIrqHold v).midInputs = s.midInputs := rfl

@[simp] theorem State.setMem_a (s : State) (v : Memory) : (s.setMem v).a = s.a := rfl
@[simp] theorem State.setMem_h (s : State) (v : Memory) : (s.setMem v).h = s.h := rfl
@[simp] theorem State.setMem_x (s : State) (v : Memory) : (s.setMem v).x = s.x := rfl
@[simp] theorem State.setMem_sp (s : State) (v : Memory) : (s.setMem v).sp = s.sp := rfl
@[simp] theorem State.setMem_pc (s : State) (v : Memory) : (s.setMem v).pc = s.pc := rfl
@[simp] theorem State.setMem_ccr (s : State) (v : Memory) : (s.setMem v).ccr = s.ccr := rfl
@[simp] theorem State.setMem_run (s : State) (v : Memory) : (s.setMem v).run = s.run := rfl
@[simp] theorem State.setMem_mode (s : State) (v : Memory) : (s.setMem v).mode = s.mode := rfl
@[simp] theorem State.setMem_irqHold (s : State) (v : Memory) : (s.setMem v).irqHold = s.irqHold := rfl
@[simp] theorem State.setMem_mem (s : State) (v : Memory) : (s.setMem v).mem = v := rfl
@[simp] theorem State.setMem_sim (s : State) (v : Memory) : (s.setMem v).sim = s.sim := rfl
@[simp] theorem State.setMem_brk (s : State) (v : Memory) : (s.setMem v).brk = s.brk := rfl
@[simp] theorem State.setMem_mods (s : State) (v : Memory) : (s.setMem v).mods = s.mods := rfl
@[simp] theorem State.setMem_pins (s : State) (v : Memory) : (s.setMem v).pins = s.pins := rfl
@[simp] theorem State.setMem_link (s : State) (v : Memory) : (s.setMem v).link = s.link := rfl
@[simp] theorem State.setMem_cfg (s : State) (v : Memory) : (s.setMem v).cfg = s.cfg := rfl
@[simp] theorem State.setMem_free (s : State) (v : Memory) : (s.setMem v).free = s.free := rfl
@[simp] theorem State.setMem_justStored (s : State) (v : Memory) : (s.setMem v).justStored = s.justStored := rfl
@[simp] theorem State.setMem_written (s : State) (v : Memory) : (s.setMem v).written = s.written := rfl
@[simp] theorem State.setMem_inputs (s : State) (v : Memory) : (s.setMem v).inputs = s.inputs := rfl
@[simp] theorem State.setMem_midInputs (s : State) (v : Memory) : (s.setMem v).midInputs = s.midInputs := rfl

@[simp] theorem State.setSim_a (s : State) (v : Sim) : (s.setSim v).a = s.a := rfl
@[simp] theorem State.setSim_h (s : State) (v : Sim) : (s.setSim v).h = s.h := rfl
@[simp] theorem State.setSim_x (s : State) (v : Sim) : (s.setSim v).x = s.x := rfl
@[simp] theorem State.setSim_sp (s : State) (v : Sim) : (s.setSim v).sp = s.sp := rfl
@[simp] theorem State.setSim_pc (s : State) (v : Sim) : (s.setSim v).pc = s.pc := rfl
@[simp] theorem State.setSim_ccr (s : State) (v : Sim) : (s.setSim v).ccr = s.ccr := rfl
@[simp] theorem State.setSim_run (s : State) (v : Sim) : (s.setSim v).run = s.run := rfl
@[simp] theorem State.setSim_mode (s : State) (v : Sim) : (s.setSim v).mode = s.mode := rfl
@[simp] theorem State.setSim_irqHold (s : State) (v : Sim) : (s.setSim v).irqHold = s.irqHold := rfl
@[simp] theorem State.setSim_mem (s : State) (v : Sim) : (s.setSim v).mem = s.mem := rfl
@[simp] theorem State.setSim_sim (s : State) (v : Sim) : (s.setSim v).sim = v := rfl
@[simp] theorem State.setSim_brk (s : State) (v : Sim) : (s.setSim v).brk = s.brk := rfl
@[simp] theorem State.setSim_mods (s : State) (v : Sim) : (s.setSim v).mods = s.mods := rfl
@[simp] theorem State.setSim_pins (s : State) (v : Sim) : (s.setSim v).pins = s.pins := rfl
@[simp] theorem State.setSim_link (s : State) (v : Sim) : (s.setSim v).link = s.link := rfl
@[simp] theorem State.setSim_cfg (s : State) (v : Sim) : (s.setSim v).cfg = s.cfg := rfl
@[simp] theorem State.setSim_free (s : State) (v : Sim) : (s.setSim v).free = s.free := rfl
@[simp] theorem State.setSim_justStored (s : State) (v : Sim) : (s.setSim v).justStored = s.justStored := rfl
@[simp] theorem State.setSim_written (s : State) (v : Sim) : (s.setSim v).written = s.written := rfl
@[simp] theorem State.setSim_inputs (s : State) (v : Sim) : (s.setSim v).inputs = s.inputs := rfl
@[simp] theorem State.setSim_midInputs (s : State) (v : Sim) : (s.setSim v).midInputs = s.midInputs := rfl

@[simp] theorem State.setBrk_a (s : State) (v : Break) : (s.setBrk v).a = s.a := rfl
@[simp] theorem State.setBrk_h (s : State) (v : Break) : (s.setBrk v).h = s.h := rfl
@[simp] theorem State.setBrk_x (s : State) (v : Break) : (s.setBrk v).x = s.x := rfl
@[simp] theorem State.setBrk_sp (s : State) (v : Break) : (s.setBrk v).sp = s.sp := rfl
@[simp] theorem State.setBrk_pc (s : State) (v : Break) : (s.setBrk v).pc = s.pc := rfl
@[simp] theorem State.setBrk_ccr (s : State) (v : Break) : (s.setBrk v).ccr = s.ccr := rfl
@[simp] theorem State.setBrk_run (s : State) (v : Break) : (s.setBrk v).run = s.run := rfl
@[simp] theorem State.setBrk_mode (s : State) (v : Break) : (s.setBrk v).mode = s.mode := rfl
@[simp] theorem State.setBrk_irqHold (s : State) (v : Break) : (s.setBrk v).irqHold = s.irqHold := rfl
@[simp] theorem State.setBrk_mem (s : State) (v : Break) : (s.setBrk v).mem = s.mem := rfl
@[simp] theorem State.setBrk_sim (s : State) (v : Break) : (s.setBrk v).sim = s.sim := rfl
@[simp] theorem State.setBrk_brk (s : State) (v : Break) : (s.setBrk v).brk = v := rfl
@[simp] theorem State.setBrk_mods (s : State) (v : Break) : (s.setBrk v).mods = s.mods := rfl
@[simp] theorem State.setBrk_pins (s : State) (v : Break) : (s.setBrk v).pins = s.pins := rfl
@[simp] theorem State.setBrk_link (s : State) (v : Break) : (s.setBrk v).link = s.link := rfl
@[simp] theorem State.setBrk_cfg (s : State) (v : Break) : (s.setBrk v).cfg = s.cfg := rfl
@[simp] theorem State.setBrk_free (s : State) (v : Break) : (s.setBrk v).free = s.free := rfl
@[simp] theorem State.setBrk_justStored (s : State) (v : Break) : (s.setBrk v).justStored = s.justStored := rfl
@[simp] theorem State.setBrk_written (s : State) (v : Break) : (s.setBrk v).written = s.written := rfl
@[simp] theorem State.setBrk_inputs (s : State) (v : Break) : (s.setBrk v).inputs = s.inputs := rfl
@[simp] theorem State.setBrk_midInputs (s : State) (v : Break) : (s.setBrk v).midInputs = s.midInputs := rfl

@[simp] theorem State.setMods_a (s : State) (v : Modules) : (s.setMods v).a = s.a := rfl
@[simp] theorem State.setMods_h (s : State) (v : Modules) : (s.setMods v).h = s.h := rfl
@[simp] theorem State.setMods_x (s : State) (v : Modules) : (s.setMods v).x = s.x := rfl
@[simp] theorem State.setMods_sp (s : State) (v : Modules) : (s.setMods v).sp = s.sp := rfl
@[simp] theorem State.setMods_pc (s : State) (v : Modules) : (s.setMods v).pc = s.pc := rfl
@[simp] theorem State.setMods_ccr (s : State) (v : Modules) : (s.setMods v).ccr = s.ccr := rfl
@[simp] theorem State.setMods_run (s : State) (v : Modules) : (s.setMods v).run = s.run := rfl
@[simp] theorem State.setMods_mode (s : State) (v : Modules) : (s.setMods v).mode = s.mode := rfl
@[simp] theorem State.setMods_irqHold (s : State) (v : Modules) : (s.setMods v).irqHold = s.irqHold := rfl
@[simp] theorem State.setMods_mem (s : State) (v : Modules) : (s.setMods v).mem = s.mem := rfl
@[simp] theorem State.setMods_sim (s : State) (v : Modules) : (s.setMods v).sim = s.sim := rfl
@[simp] theorem State.setMods_brk (s : State) (v : Modules) : (s.setMods v).brk = s.brk := rfl
@[simp] theorem State.setMods_mods (s : State) (v : Modules) : (s.setMods v).mods = v := rfl
@[simp] theorem State.setMods_pins (s : State) (v : Modules) : (s.setMods v).pins = s.pins := rfl
@[simp] theorem State.setMods_link (s : State) (v : Modules) : (s.setMods v).link = s.link := rfl
@[simp] theorem State.setMods_cfg (s : State) (v : Modules) : (s.setMods v).cfg = s.cfg := rfl
@[simp] theorem State.setMods_free (s : State) (v : Modules) : (s.setMods v).free = s.free := rfl
@[simp] theorem State.setMods_justStored (s : State) (v : Modules) : (s.setMods v).justStored = s.justStored := rfl
@[simp] theorem State.setMods_written (s : State) (v : Modules) : (s.setMods v).written = s.written := rfl
@[simp] theorem State.setMods_inputs (s : State) (v : Modules) : (s.setMods v).inputs = s.inputs := rfl
@[simp] theorem State.setMods_midInputs (s : State) (v : Modules) : (s.setMods v).midInputs = s.midInputs := rfl

@[simp] theorem State.setPins_a (s : State) (v : Pins) : (s.setPins v).a = s.a := rfl
@[simp] theorem State.setPins_h (s : State) (v : Pins) : (s.setPins v).h = s.h := rfl
@[simp] theorem State.setPins_x (s : State) (v : Pins) : (s.setPins v).x = s.x := rfl
@[simp] theorem State.setPins_sp (s : State) (v : Pins) : (s.setPins v).sp = s.sp := rfl
@[simp] theorem State.setPins_pc (s : State) (v : Pins) : (s.setPins v).pc = s.pc := rfl
@[simp] theorem State.setPins_ccr (s : State) (v : Pins) : (s.setPins v).ccr = s.ccr := rfl
@[simp] theorem State.setPins_run (s : State) (v : Pins) : (s.setPins v).run = s.run := rfl
@[simp] theorem State.setPins_mode (s : State) (v : Pins) : (s.setPins v).mode = s.mode := rfl
@[simp] theorem State.setPins_irqHold (s : State) (v : Pins) : (s.setPins v).irqHold = s.irqHold := rfl
@[simp] theorem State.setPins_mem (s : State) (v : Pins) : (s.setPins v).mem = s.mem := rfl
@[simp] theorem State.setPins_sim (s : State) (v : Pins) : (s.setPins v).sim = s.sim := rfl
@[simp] theorem State.setPins_brk (s : State) (v : Pins) : (s.setPins v).brk = s.brk := rfl
@[simp] theorem State.setPins_mods (s : State) (v : Pins) : (s.setPins v).mods = s.mods := rfl
@[simp] theorem State.setPins_pins (s : State) (v : Pins) : (s.setPins v).pins = v := rfl
@[simp] theorem State.setPins_link (s : State) (v : Pins) : (s.setPins v).link = s.link := rfl
@[simp] theorem State.setPins_cfg (s : State) (v : Pins) : (s.setPins v).cfg = s.cfg := rfl
@[simp] theorem State.setPins_free (s : State) (v : Pins) : (s.setPins v).free = s.free := rfl
@[simp] theorem State.setPins_justStored (s : State) (v : Pins) : (s.setPins v).justStored = s.justStored := rfl
@[simp] theorem State.setPins_written (s : State) (v : Pins) : (s.setPins v).written = s.written := rfl
@[simp] theorem State.setPins_inputs (s : State) (v : Pins) : (s.setPins v).inputs = s.inputs := rfl
@[simp] theorem State.setPins_midInputs (s : State) (v : Pins) : (s.setPins v).midInputs = s.midInputs := rfl

@[simp] theorem State.drew_a (s : State) (n : Nat) : (s.drew n).a = s.a := rfl
@[simp] theorem State.drew_h (s : State) (n : Nat) : (s.drew n).h = s.h := rfl
@[simp] theorem State.drew_x (s : State) (n : Nat) : (s.drew n).x = s.x := rfl
@[simp] theorem State.drew_sp (s : State) (n : Nat) : (s.drew n).sp = s.sp := rfl
@[simp] theorem State.drew_pc (s : State) (n : Nat) : (s.drew n).pc = s.pc := rfl
@[simp] theorem State.drew_ccr (s : State) (n : Nat) : (s.drew n).ccr = s.ccr := rfl
@[simp] theorem State.drew_run (s : State) (n : Nat) : (s.drew n).run = s.run := rfl
@[simp] theorem State.drew_mode (s : State) (n : Nat) : (s.drew n).mode = s.mode := rfl
@[simp] theorem State.drew_irqHold (s : State) (n : Nat) : (s.drew n).irqHold = s.irqHold := rfl
@[simp] theorem State.drew_mem (s : State) (n : Nat) : (s.drew n).mem = s.mem := rfl
@[simp] theorem State.drew_sim (s : State) (n : Nat) : (s.drew n).sim = s.sim := rfl
@[simp] theorem State.drew_brk (s : State) (n : Nat) : (s.drew n).brk = s.brk := rfl
@[simp] theorem State.drew_mods (s : State) (n : Nat) : (s.drew n).mods = s.mods := rfl
@[simp] theorem State.drew_pins (s : State) (n : Nat) : (s.drew n).pins = s.pins := rfl
@[simp] theorem State.drew_link (s : State) (n : Nat) : (s.drew n).link = s.link := rfl
@[simp] theorem State.drew_cfg (s : State) (n : Nat) : (s.drew n).cfg = s.cfg := rfl
@[simp] theorem State.drew_free (s : State) (n : Nat) : (s.drew n).free = s.free + n := rfl
@[simp] theorem State.drew_justStored (s : State) (n : Nat) : (s.drew n).justStored = s.justStored := rfl
@[simp] theorem State.drew_written (s : State) (n : Nat) : (s.drew n).written = s.written := rfl
@[simp] theorem State.drew_inputs (s : State) (n : Nat) : (s.drew n).inputs = s.inputs := rfl
@[simp] theorem State.drew_midInputs (s : State) (n : Nat) : (s.drew n).midInputs = s.midInputs := rfl

@[simp] theorem State.setJustStored_a (s : State) (v : List Word) : (s.setJustStored v).a = s.a := rfl
@[simp] theorem State.setJustStored_h (s : State) (v : List Word) : (s.setJustStored v).h = s.h := rfl
@[simp] theorem State.setJustStored_x (s : State) (v : List Word) : (s.setJustStored v).x = s.x := rfl
@[simp] theorem State.setJustStored_sp (s : State) (v : List Word) : (s.setJustStored v).sp = s.sp := rfl
@[simp] theorem State.setJustStored_pc (s : State) (v : List Word) : (s.setJustStored v).pc = s.pc := rfl
@[simp] theorem State.setJustStored_ccr (s : State) (v : List Word) : (s.setJustStored v).ccr = s.ccr := rfl
@[simp] theorem State.setJustStored_run (s : State) (v : List Word) : (s.setJustStored v).run = s.run := rfl
@[simp] theorem State.setJustStored_mode (s : State) (v : List Word) : (s.setJustStored v).mode = s.mode := rfl
@[simp] theorem State.setJustStored_irqHold (s : State) (v : List Word) : (s.setJustStored v).irqHold = s.irqHold := rfl
@[simp] theorem State.setJustStored_mem (s : State) (v : List Word) : (s.setJustStored v).mem = s.mem := rfl
@[simp] theorem State.setJustStored_sim (s : State) (v : List Word) : (s.setJustStored v).sim = s.sim := rfl
@[simp] theorem State.setJustStored_brk (s : State) (v : List Word) : (s.setJustStored v).brk = s.brk := rfl
@[simp] theorem State.setJustStored_mods (s : State) (v : List Word) : (s.setJustStored v).mods = s.mods := rfl
@[simp] theorem State.setJustStored_pins (s : State) (v : List Word) : (s.setJustStored v).pins = s.pins := rfl
@[simp] theorem State.setJustStored_link (s : State) (v : List Word) : (s.setJustStored v).link = s.link := rfl
@[simp] theorem State.setJustStored_cfg (s : State) (v : List Word) : (s.setJustStored v).cfg = s.cfg := rfl
@[simp] theorem State.setJustStored_free (s : State) (v : List Word) : (s.setJustStored v).free = s.free := rfl
@[simp] theorem State.setJustStored_justStored (s : State) (v : List Word) : (s.setJustStored v).justStored = v := rfl
@[simp] theorem State.setJustStored_written (s : State) (v : List Word) : (s.setJustStored v).written = s.written := rfl
@[simp] theorem State.setJustStored_inputs (s : State) (v : List Word) : (s.setJustStored v).inputs = s.inputs := rfl
@[simp] theorem State.setJustStored_midInputs (s : State) (v : List Word) : (s.setJustStored v).midInputs = s.midInputs := rfl

@[simp] theorem State.setWritten_a (s : State) (v : List Word) : (s.setWritten v).a = s.a := rfl
@[simp] theorem State.setWritten_h (s : State) (v : List Word) : (s.setWritten v).h = s.h := rfl
@[simp] theorem State.setWritten_x (s : State) (v : List Word) : (s.setWritten v).x = s.x := rfl
@[simp] theorem State.setWritten_sp (s : State) (v : List Word) : (s.setWritten v).sp = s.sp := rfl
@[simp] theorem State.setWritten_pc (s : State) (v : List Word) : (s.setWritten v).pc = s.pc := rfl
@[simp] theorem State.setWritten_ccr (s : State) (v : List Word) : (s.setWritten v).ccr = s.ccr := rfl
@[simp] theorem State.setWritten_run (s : State) (v : List Word) : (s.setWritten v).run = s.run := rfl
@[simp] theorem State.setWritten_mode (s : State) (v : List Word) : (s.setWritten v).mode = s.mode := rfl
@[simp] theorem State.setWritten_irqHold (s : State) (v : List Word) : (s.setWritten v).irqHold = s.irqHold := rfl
@[simp] theorem State.setWritten_mem (s : State) (v : List Word) : (s.setWritten v).mem = s.mem := rfl
@[simp] theorem State.setWritten_sim (s : State) (v : List Word) : (s.setWritten v).sim = s.sim := rfl
@[simp] theorem State.setWritten_brk (s : State) (v : List Word) : (s.setWritten v).brk = s.brk := rfl
@[simp] theorem State.setWritten_mods (s : State) (v : List Word) : (s.setWritten v).mods = s.mods := rfl
@[simp] theorem State.setWritten_pins (s : State) (v : List Word) : (s.setWritten v).pins = s.pins := rfl
@[simp] theorem State.setWritten_link (s : State) (v : List Word) : (s.setWritten v).link = s.link := rfl
@[simp] theorem State.setWritten_cfg (s : State) (v : List Word) : (s.setWritten v).cfg = s.cfg := rfl
@[simp] theorem State.setWritten_free (s : State) (v : List Word) : (s.setWritten v).free = s.free := rfl
@[simp] theorem State.setWritten_justStored (s : State) (v : List Word) : (s.setWritten v).justStored = s.justStored := rfl
@[simp] theorem State.setWritten_written (s : State) (v : List Word) : (s.setWritten v).written = v := rfl
@[simp] theorem State.setWritten_inputs (s : State) (v : List Word) : (s.setWritten v).inputs = s.inputs := rfl
@[simp] theorem State.setWritten_midInputs (s : State) (v : List Word) : (s.setWritten v).midInputs = s.midInputs := rfl

@[simp] theorem State.setLink_a (s : State) (v : HostLink) : (s.setLink v).a = s.a := rfl
@[simp] theorem State.setLink_h (s : State) (v : HostLink) : (s.setLink v).h = s.h := rfl
@[simp] theorem State.setLink_x (s : State) (v : HostLink) : (s.setLink v).x = s.x := rfl
@[simp] theorem State.setLink_sp (s : State) (v : HostLink) : (s.setLink v).sp = s.sp := rfl
@[simp] theorem State.setLink_pc (s : State) (v : HostLink) : (s.setLink v).pc = s.pc := rfl
@[simp] theorem State.setLink_ccr (s : State) (v : HostLink) : (s.setLink v).ccr = s.ccr := rfl
@[simp] theorem State.setLink_run (s : State) (v : HostLink) : (s.setLink v).run = s.run := rfl
@[simp] theorem State.setLink_mode (s : State) (v : HostLink) : (s.setLink v).mode = s.mode := rfl
@[simp] theorem State.setLink_irqHold (s : State) (v : HostLink) : (s.setLink v).irqHold = s.irqHold := rfl
@[simp] theorem State.setLink_mem (s : State) (v : HostLink) : (s.setLink v).mem = s.mem := rfl
@[simp] theorem State.setLink_sim (s : State) (v : HostLink) : (s.setLink v).sim = s.sim := rfl
@[simp] theorem State.setLink_brk (s : State) (v : HostLink) : (s.setLink v).brk = s.brk := rfl
@[simp] theorem State.setLink_mods (s : State) (v : HostLink) : (s.setLink v).mods = s.mods := rfl
@[simp] theorem State.setLink_pins (s : State) (v : HostLink) : (s.setLink v).pins = s.pins := rfl
@[simp] theorem State.setLink_link (s : State) (v : HostLink) : (s.setLink v).link = v := rfl
@[simp] theorem State.setLink_cfg (s : State) (v : HostLink) : (s.setLink v).cfg = s.cfg := rfl
@[simp] theorem State.setLink_free (s : State) (v : HostLink) : (s.setLink v).free = s.free := rfl
@[simp] theorem State.setLink_justStored (s : State) (v : HostLink) : (s.setLink v).justStored = s.justStored := rfl
@[simp] theorem State.setLink_written (s : State) (v : HostLink) : (s.setLink v).written = s.written := rfl
@[simp] theorem State.setLink_inputs (s : State) (v : HostLink) : (s.setLink v).inputs = s.inputs := rfl
@[simp] theorem State.setLink_midInputs (s : State) (v : HostLink) : (s.setLink v).midInputs = s.midInputs := rfl

@[simp] theorem State.setMidInputs_a (s : State) (v : List (List EnvEvent)) : (s.setMidInputs v).a = s.a := rfl
@[simp] theorem State.setMidInputs_h (s : State) (v : List (List EnvEvent)) : (s.setMidInputs v).h = s.h := rfl
@[simp] theorem State.setMidInputs_x (s : State) (v : List (List EnvEvent)) : (s.setMidInputs v).x = s.x := rfl
@[simp] theorem State.setMidInputs_sp (s : State) (v : List (List EnvEvent)) : (s.setMidInputs v).sp = s.sp := rfl
@[simp] theorem State.setMidInputs_pc (s : State) (v : List (List EnvEvent)) : (s.setMidInputs v).pc = s.pc := rfl
@[simp] theorem State.setMidInputs_ccr (s : State) (v : List (List EnvEvent)) : (s.setMidInputs v).ccr = s.ccr := rfl
@[simp] theorem State.setMidInputs_run (s : State) (v : List (List EnvEvent)) : (s.setMidInputs v).run = s.run := rfl
@[simp] theorem State.setMidInputs_mode (s : State) (v : List (List EnvEvent)) : (s.setMidInputs v).mode = s.mode := rfl
@[simp] theorem State.setMidInputs_irqHold (s : State) (v : List (List EnvEvent)) : (s.setMidInputs v).irqHold = s.irqHold := rfl
@[simp] theorem State.setMidInputs_mem (s : State) (v : List (List EnvEvent)) : (s.setMidInputs v).mem = s.mem := rfl
@[simp] theorem State.setMidInputs_sim (s : State) (v : List (List EnvEvent)) : (s.setMidInputs v).sim = s.sim := rfl
@[simp] theorem State.setMidInputs_brk (s : State) (v : List (List EnvEvent)) : (s.setMidInputs v).brk = s.brk := rfl
@[simp] theorem State.setMidInputs_mods (s : State) (v : List (List EnvEvent)) : (s.setMidInputs v).mods = s.mods := rfl
@[simp] theorem State.setMidInputs_pins (s : State) (v : List (List EnvEvent)) : (s.setMidInputs v).pins = s.pins := rfl
@[simp] theorem State.setMidInputs_link (s : State) (v : List (List EnvEvent)) : (s.setMidInputs v).link = s.link := rfl
@[simp] theorem State.setMidInputs_cfg (s : State) (v : List (List EnvEvent)) : (s.setMidInputs v).cfg = s.cfg := rfl
@[simp] theorem State.setMidInputs_free (s : State) (v : List (List EnvEvent)) : (s.setMidInputs v).free = s.free := rfl
@[simp] theorem State.setMidInputs_justStored (s : State) (v : List (List EnvEvent)) : (s.setMidInputs v).justStored = s.justStored := rfl
@[simp] theorem State.setMidInputs_written (s : State) (v : List (List EnvEvent)) : (s.setMidInputs v).written = s.written := rfl
@[simp] theorem State.setMidInputs_inputs (s : State) (v : List (List EnvEvent)) : (s.setMidInputs v).inputs = s.inputs := rfl
@[simp] theorem State.setMidInputs_midInputs (s : State) (v : List (List EnvEvent)) : (s.setMidInputs v).midInputs = v := rfl

end Sys2Proof.Machine
end

