-- ==== Sys2Proof/Laws/Agents.lean ====
section
/-! SUPPORT. Everything the device agents can do, said once: `AgentEffect`, and that they request only resets of R312. -/

namespace Sys2Proof.Machine

/-- A property of both branches is one of the choice. -/
theorem ite_holds {α : Type} (p : α → Prop) {c : Prop} [Decidable c] {x y : α} (hx : p x) (hy : p y) :
    p (if c then x else y) := by
  split <;> assumption

/-- What agents do, and that a reset they request is one of R312. -/
def AgentStep (s t : State) : Prop :=
  AgentEffect s t ∧ (s.sim.resetReq &&& 0x05#8 = 0x00#8 → t.sim.resetReq &&& 0x05#8 = 0x00#8)

theorem AgentEffect.refl (s : State) : AgentEffect s s := ⟨_, _, _, _, _, _, _, _, rfl⟩

theorem AgentEffect.trans {s t u : State} (h : AgentEffect s t) (h' : AgentEffect t u) : AgentEffect s u := by
  obtain ⟨_, _, _, _, _, _, _, _, rfl⟩ := h
  obtain ⟨_, _, _, _, _, _, _, _, rfl⟩ := h'
  exact ⟨_, _, _, _, _, _, _, _, rfl⟩

theorem AgentStep.refl (s : State) : AgentStep s s := ⟨AgentEffect.refl s, id⟩

theorem AgentStep.trans {s t u : State} (h : AgentStep s t) (h' : AgentStep t u) : AgentStep s u :=
  ⟨h.1.trans h'.1, fun w => h'.2 (h.2 w)⟩

theorem AgentStep.mods (s : State) (m : Modules) : AgentStep s (s.setMods m) := ⟨⟨_, _, _, _, _, _, _, _, rfl⟩, id⟩

theorem AgentStep.pins (s : State) (p : Pins) : AgentStep s (s.setPins p) := ⟨⟨_, _, _, _, _, _, _, _, rfl⟩, id⟩

theorem AgentStep.requestReset (s : State) (c : ResetCause) : AgentStep s (s.requestReset c) := by
  refine ⟨⟨_, _, _, _, _, _, _, _, rfl⟩, fun w => ?_⟩
  show (s.sim.resetReq ||| c.bit) &&& 0x05#8 = 0x00#8
  have hc : c.bit &&& 0x05#8 = 0x00#8 := by cases c <;> rfl
  have e : (s.sim.resetReq ||| c.bit) &&& 0x05#8 = (s.sim.resetReq &&& 0x05#8) ||| (c.bit &&& 0x05#8) := by
    ext i
    simp only [BitVec.getElem_and, BitVec.getElem_or, Bool.and_or_distrib_right]
  rw [e, w, hc]
  rfl

/-- The resets that the levels force are resets of R312. -/
theorem State.resetPending_sources {s : State} (h : s.sim.resetReq &&& 0x05#8 = 0x00#8) :
    s.resetPending &&& 0x05#8 = 0x00#8 := by
  have hl : (if s.lviForces then ResetCause.lvi.bit else 0x00#8) &&& 0x05#8 = 0x00#8 := by split <;> rfl
  have hp : (if s.rstForces then ResetCause.pin.bit else 0x00#8) &&& 0x05#8 = 0x00#8 := by split <;> rfl
  have e : ∀ x y z : Byte, (x ||| y) &&& z = (x &&& z) ||| (y &&& z) := fun x y z => by
    ext i
    simp only [BitVec.getElem_and, BitVec.getElem_or, Bool.and_or_distrib_right]
  unfold State.resetPending
  rw [e, e, h, hl, hp]
  rfl

/-- A reset that has been requested is due. -/
theorem State.resetPending_requested {s : State} {n : Nat} (h : s.sim.resetReq.getLsbD n = true) :
    s.resetPending.getLsbD n = true := by
  unfold State.resetPending
  rw [BitVec.getLsbD_or, BitVec.getLsbD_or, h]
  rfl

/-- A low /RST makes the pin's reset due. -/
theorem State.resetPending_rst {s : State} (h : s.rstForces = true) : s.resetPending.getLsbD 6 = true := by
  unfold State.resetPending
  rw [h, BitVec.getLsbD_or]
  exact Bool.or_true _

/-- A low VDD makes the LVI's reset due. -/
theorem State.resetPending_lvi {s : State} (h : s.lviForces = true) : s.resetPending.getLsbD 1 = true := by
  unfold State.resetPending
  rw [h, BitVec.getLsbD_or, BitVec.getLsbD_or]
  simp [ResetCause.bit]

/-- Whether /RST forces a reset after the pins have changed. -/
theorem State.pinsChange_rstForces (s : State) (pta : BitVec 6) (ptb : Byte) (v : Bool) :
    (s.pinsChange pta ptb v).rstForces = (s.sim.rstEn && !pta.getLsbD 3) := rfl

theorem State.pinsChange_sim (s : State) (pta : BitVec 6) (ptb : Byte) (v : Bool) : (s.pinsChange pta ptb v).sim = s.sim :=
  rfl

theorem State.requestForced_resetReq (s : State) : s.requestForced.sim.resetReq = s.resetPending := rfl

theorem AgentStep.requestForced (s : State) : AgentStep s s.requestForced :=
  ⟨⟨_, _, _, _, _, _, _, _, rfl⟩, fun w => State.resetPending_sources w⟩

theorem AgentStep.simCounts (s : State) (n : Nat) : AgentStep s (s.simCounts n) := by
  unfold State.simCounts
  dsimp only
  split
  · have h : AgentStep s (s.setSim { s.sim with
        counter := BitVec.ofNat 12 (s.sim.cop.toNat * 4096 + s.sim.counter.toNat + n)
        cop := BitVec.ofNat 6 ((s.sim.cop.toNat * 4096 + s.sim.counter.toNat + n) / 4096)
        copTime := s.sim.copTime + n }) := ⟨⟨_, _, _, _, _, _, _, _, rfl⟩, id⟩
    exact ite_holds (AgentStep s) (h.trans (AgentStep.requestReset _ _)) h
  · exact ⟨⟨_, _, _, _, _, _, _, _, rfl⟩, id⟩

theorem AgentStep.timerRuns (s : State) (n : Nat) : AgentStep s (s.timerRuns n) := by
  unfold State.timerRuns
  dsimp only
  exact ite_holds (AgentStep s) (AgentStep.refl s) ((AgentStep.mods s _).trans (AgentStep.pins _ _))

/-- Everything one event of a device agent can do. -/
theorem State.agentActs_step (s : State) (e : EnvEvent) : AgentStep s (s.agentActs e) := by
  cases e with
  | powerOn => exact AgentStep.requestReset s _
  | resetPin => exact ite_holds (AgentStep s) (AgentStep.requestReset s _) (AgentStep.refl s)
  | forceBreak => exact ⟨⟨_, _, _, _, _, _, _, _, rfl⟩, id⟩
  | pins pta ptb v => exact ((AgentStep.pins s _).trans (AgentStep.mods _ _)).trans (AgentStep.requestForced _)
  | analog => exact AgentStep.pins s _
  | supply low => exact ((AgentStep.requestForced s).trans (AgentStep.pins _ _)).trans (AgentStep.requestForced _)
  | clocks n =>
    exact ite_holds (AgentStep s) (AgentStep.refl s) ((AgentStep.simCounts s n).trans (AgentStep.timerRuns _ n))
  | modules m => exact AgentStep.mods s _
  | adcSample =>
    show AgentStep s s.adcSamples
    unfold State.adcSamples
    split
    · exact ite_holds (AgentStep s) (AgentStep.mods s _) (AgentStep.refl s)
    · exact AgentStep.refl s
  | adcDone => exact ite_holds (AgentStep s) (AgentStep.mods s _) (AgentStep.refl s)
  | autoWake => exact ite_holds (AgentStep s) (AgentStep.mods s _) (AgentStep.refl s)
  | host c => exact AgentStep.refl s

/-- Everything a batch of events can do. -/
theorem State.agentBatch_step (s : State) (l : List EnvEvent) : AgentStep s (l.foldl State.agentActs s) := by
  induction l generalizing s with
  | nil => exact AgentStep.refl s
  | cons e l ih => exact (s.agentActs_step e).trans (ih _)

/-- Everything the devices can do before an access to a device register. -/
theorem State.agentsAct_step (s : State) : AgentStep s s.agentsAct := by
  unfold State.agentsAct
  split
  · exact AgentStep.refl s
  · exact (s.agentBatch_step _).trans ⟨⟨_, _, _, _, _, _, _, _, rfl⟩, id⟩

/-- With no batch waiting they do nothing. -/
theorem State.agentsAct_none {s : State} (h : s.midInputs = []) : s.agentsAct = s := by
  unfold State.agentsAct
  rw [h]

end Sys2Proof.Machine
end

