-- ==== Sys2Proof/Laws/Memory.lean ====
section
/-! SUPPORT. The laws of memory: a read after a write, and that every operation keeps the canonical form. -/

namespace Sys2Proof.Machine

@[simp] theorem Memory.read_nil (a : Nat) : Memory.read [] a = Memory.unlisted a := rfl

/-- A write leaves every other address alone, whatever the list. -/
theorem Memory.read_write_other (m : Memory) {a b : Nat} (v : Byte) (h : b ≠ a) :
    (m.write a v).read b = m.read b := by
  induction m with
  | nil =>
    by_cases hv : v = Memory.unlisted a
    · simp [Memory.write, hv]
    · simp [Memory.write, hv, Memory.read, Ne.symm h]
  | cons c m ih =>
    obtain ⟨c, w⟩ := c
    simp only [Memory.write]
    split
    · simp only [Memory.read, ih]
    · split
      · rename_i hc
        subst hc
        split <;> simp [Memory.read, Ne.symm h]
      · split <;> simp [Memory.read, Ne.symm h]

/-- In canonical form an address below every entry reads as unlisted. -/
theorem Memory.read_below {m : Memory} {lo a : Nat} (h : Memory.wfFrom lo m = true) (ha : a < lo) :
    m.read a = Memory.unlisted a := by
  induction m generalizing lo with
  | nil => rfl
  | cons c m ih =>
    obtain ⟨c, w⟩ := c
    simp only [Memory.wfFrom, Bool.and_eq_true, decide_eq_true_eq] at h
    obtain ⟨⟨⟨h1, _⟩, _⟩, h4⟩ := h
    have hne : c ≠ a := by omega
    simp only [Memory.read, if_neg hne]
    exact ih h4 (by omega)

/-- In canonical form a read after a write gives the byte written. -/
theorem Memory.read_write_same_from {m : Memory} {lo a : Nat} (v : Byte) (h : Memory.wfFrom lo m = true) :
    (m.write a v).read a = v := by
  induction m generalizing lo with
  | nil =>
    by_cases hv : v = Memory.unlisted a
    · simp [Memory.write, hv]
    · simp [Memory.write, hv, Memory.read]
  | cons c m ih =>
    obtain ⟨c, w⟩ := c
    simp only [Memory.wfFrom, Bool.and_eq_true, decide_eq_true_eq] at h
    obtain ⟨⟨⟨h1, _⟩, _⟩, h4⟩ := h
    simp only [Memory.write]
    split
    · rename_i hc
      have hne : c ≠ a := by omega
      simp only [Memory.read, if_neg hne]
      exact ih h4
    · split
      · rename_i hc
        subst hc
        split
        · rename_i hv
          rw [Memory.read_below h4 (by omega), hv]
        · simp [Memory.read]
      · rename_i hc hc'
        split
        · rename_i hv
          have hne : c ≠ a := by omega
          simp only [Memory.read, if_neg hne]
          rw [Memory.read_below h4 (by omega), hv]
        · simp [Memory.read]

theorem Memory.read_write_same {m : Memory} (a : Nat) (v : Byte) (h : Memory.wf m = true) : (m.write a v).read a = v :=
  Memory.read_write_same_from v h

/-- The canonical form from an address holds from every lower one. -/
theorem Memory.wfFrom_mono {m : Memory} {lo lo' : Nat} (h : Memory.wfFrom lo m = true) (hl : lo' ≤ lo) :
    Memory.wfFrom lo' m = true := by
  cases m with
  | nil => rfl
  | cons c m =>
    obtain ⟨c, w⟩ := c
    simp only [Memory.wfFrom, Bool.and_eq_true, decide_eq_true_eq] at h ⊢
    obtain ⟨⟨⟨h1, h2⟩, h3⟩, h4⟩ := h
    exact ⟨⟨⟨by omega, h2⟩, h3⟩, h4⟩

theorem Memory.wfFrom_write {m : Memory} {lo a : Nat} (v : Byte) (h : Memory.wfFrom lo m = true) (hl : lo ≤ a)
    (ha : a < 0x10000) : Memory.wfFrom lo (m.write a v) = true := by
  induction m generalizing lo with
  | nil =>
    simp only [Memory.write]
    split
    · rfl
    · rename_i hv
      simp [Memory.wfFrom, hl, ha, hv]
  | cons c m ih =>
    obtain ⟨c, w⟩ := c
    have h' := h
    simp only [Memory.wfFrom, Bool.and_eq_true, decide_eq_true_eq] at h
    obtain ⟨⟨⟨h1, h2⟩, h3⟩, h4⟩ := h
    simp only [Memory.write]
    split
    · rename_i hc
      simp only [Memory.wfFrom, Bool.and_eq_true, decide_eq_true_eq]
      exact ⟨⟨⟨h1, h2⟩, h3⟩, ih h4 (by omega)⟩
    · split
      · rename_i hc
        subst hc
        split
        · exact Memory.wfFrom_mono h4 (by omega)
        · rename_i hv
          simp [Memory.wfFrom, hl, h2, hv, h4]
      · rename_i hc hc'
        split
        · exact h'
        · rename_i hv
          simp only [Memory.wfFrom, Bool.and_eq_true, decide_eq_true_eq]
          refine ⟨⟨⟨hl, ha⟩, by simpa using hv⟩, ⟨⟨by omega, h2⟩, h3⟩, h4⟩

/-- A write keeps the canonical form. -/
theorem Memory.wf_write {m : Memory} (a : Nat) (v : Byte) (h : Memory.wf m = true) (ha : a < 0x10000) :
    Memory.wf (m.write a v) = true :=
  Memory.wfFrom_write v h (Nat.zero_le _) ha

/-- A list of writes keeps the canonical form. -/
theorem Memory.wf_writeAll {m : Memory} (a : Nat) (vs : List Byte) (h : Memory.wf m = true) :
    Memory.wf (m.writeAll a vs) = true := by
  induction vs generalizing m a with
  | nil => exact h
  | cons v vs ih => exact ih (a + 1) (Memory.wf_write _ v h (Nat.mod_lt _ (by decide)))

theorem Memory.wfFrom_filter {m : Memory} {lo : Nat} (p : Host.Cell → Bool) (h : Memory.wfFrom lo m = true) :
    Memory.wfFrom lo (m.filter p) = true := by
  induction m generalizing lo with
  | nil => rfl
  | cons c m ih =>
    obtain ⟨c, w⟩ := c
    simp only [Memory.wfFrom, Bool.and_eq_true, decide_eq_true_eq] at h
    obtain ⟨⟨⟨h1, h2⟩, h3⟩, h4⟩ := h
    rw [List.filter_cons]
    split
    · simp only [Memory.wfFrom, Bool.and_eq_true, decide_eq_true_eq]
      exact ⟨⟨⟨h1, h2⟩, h3⟩, ih h4⟩
    · exact Memory.wfFrom_mono (ih h4) (by omega)

/-- Dropping the device registers' cells keeps the canonical form. -/
theorem Memory.wf_dropDevices {m : Memory} (p : Params) (h : Memory.wf m = true) : Memory.wf (m.dropDevices p) = true :=
  Memory.wfFrom_filter _ h

/-- Filling RAM with free values keeps the canonical form. -/
theorem Memory.wf_freeRam {m : Memory} (n k : Nat) (h : Memory.wf m = true) (hk : k ≤ 0x80) :
    Memory.wf (m.freeRam n k) = true := by
  induction k with
  | zero => exact h
  | succ k ih => exact Memory.wf_write _ _ (ih (by omega)) (by omega)

/-- Freeing listed bytes of RAM keeps the canonical form. -/
theorem Memory.wf_freeBytes {m : Memory} (p : Params) (n : Nat) (l : List Word) (h : Memory.wf m = true) :
    Memory.wf (m.freeBytes p n l) = true := by
  induction l generalizing n with
  | nil => exact h
  | cons a l ih =>
    unfold Memory.freeBytes
    split
    · exact Memory.wf_write _ _ (ih (n + 1)) a.isLt
    · exact ih (n + 1)

/-- Freeing listed bytes of RAM changes no other byte. -/
theorem Memory.read_freeBytes (m : Memory) (p : Params) (n : Nat) (l : List Word) {b : Word}
    (h : region p b.toNat = .ram → b ∉ l) : (m.freeBytes p n l).read b.toNat = m.read b.toNat := by
  induction l generalizing n with
  | nil => rfl
  | cons a l ih =>
    have hl : region p b.toNat = .ram → b ∉ l := fun hb hm => h hb (List.mem_cons_of_mem _ hm)
    unfold Memory.freeBytes
    split
    · rename_i ha
      rw [Memory.read_write_other _ _ fun e => ?_]
      · exact ih (n + 1) hl
      · have e' : b = a := BitVec.eq_of_toNat_eq e
        subst e'
        exact h ha List.mem_cons_self
    · exact ih (n + 1) hl

/-- Dropping the device registers' cells changes no other byte. -/
theorem Memory.read_dropDevices (m : Memory) (p : Params) {a : Nat} (h : region p a ≠ .device) :
    (m.dropDevices p).read a = m.read a := by
  induction m with
  | nil => rfl
  | cons c m ih =>
    obtain ⟨c, w⟩ := c
    simp only [Memory.dropDevices] at ih ⊢
    rw [List.filter_cons]
    by_cases hc : c = a
    · subst hc
      simp [h, Memory.read]
    · have hr (l : Memory) : Memory.read ((c, w) :: l) a = Memory.read l a := if_neg hc
      rw [hr]
      split
      · rw [hr]
        exact ih
      · exact ih

/-- Filling RAM changes no byte outside RAM. -/
theorem Memory.read_freeRam (m : Memory) (n k : Nat) {a : Nat} (hk : k ≤ 0x80) (h : a < 0x80 ∨ 0x100 ≤ a) :
    (m.freeRam n k).read a = m.read a := by
  induction k with
  | zero => rfl
  | succ k ih =>
    rw [Memory.freeRam, Memory.read_write_other _ _ (by omega)]
    exact ih (by omega)

/-- The list of a machine out of reset is in canonical form. -/
theorem reset_mem_wf : Memory.wf State.reset.mem = true := rfl

/-- The PULH and RTI of the monitor's RUN lie in the monitor ROM, not over its vectors. -/
theorem monitorRunAt_range :
    (0xFE10 ≤ monitorRunAt ∧ monitorRunAt < 0xFEFB) ∨ (0xFF00 ≤ monitorRunAt ∧ monitorRunAt < 0xFFAF) := by
  have h : Config.runSlot % 410 < 410 := Nat.mod_lt _ (by decide)
  unfold monitorRunAt
  dsimp only
  split <;> omega

end Sys2Proof.Machine
end

