-- ==== Sys2Proof/Laws/Ops.lean ====
section
/-! SUPPORT. What one bus access can do, and for each shared operation of Machine/Ops.lean one lemma that says when it
answers a next state and which. -/

namespace Sys2Proof.Machine

/-- What a device read itself may change: SRSR and the count of free values. -/
def ReadFrame (s : State) (r : Byte × State) : Prop :=
  ∃ q n, r.2 = { s with sim := { s.sim with srsr := q }, free := n }

/-- A device read changes SRSR and the count of free values, nothing else. -/
theorem State.deviceRead_frame (s : State) (a : Nat) : ReadFrame s (s.deviceRead a) := by
  unfold State.deviceRead State.readPart
  repeat' with_reducible apply ite_holds (ReadFrame s)
  all_goals exact ⟨_, _, rfl⟩

theorem ReadEffect.refl (s : State) : ReadEffect s s :=
  ⟨⟨s, s.sim.srsr, s.free, AgentEffect.refl s, rfl⟩, fun _ => ⟨s.sim.srsr, s.free, rfl⟩⟩

theorem ReadEffect.trans {s t u : State} (h : ReadEffect s t) (h' : ReadEffect t u) : ReadEffect s u := by
  refine ⟨?_, fun w => ?_⟩
  · obtain ⟨⟨t0, r, n, ⟨req, ct, cop, tm, bk, md, pn, mid, e0⟩, e⟩, _⟩ := h
    obtain ⟨⟨u0, r', n', ⟨req', ct', cop', tm', bk', md', pn', mid', e0'⟩, e'⟩, _⟩ := h'
    subst e0 e e0' e'
    exact ⟨{ s with
      sim := { s.sim with resetReq := req', counter := ct', cop := cop', copTime := tm' }
      brk := { s.brk with request := bk' }, mods := md', pins := pn', midInputs := mid' }, r', n',
      ⟨req', ct', cop', tm', bk', md', pn', mid', rfl⟩, rfl⟩
  · obtain ⟨r, n, e⟩ := h.2 w
    obtain ⟨r', n', e'⟩ := h'.2 (by rw [e]; exact w)
    exact ⟨r', n', by rw [e', e]⟩

/-- Everything a bus read can do. -/
theorem State.busRead_effect (s : State) (a : Word) : ReadEffect s (s.busRead a).2 := by
  unfold State.busRead
  split
  · obtain ⟨r, n, h⟩ := s.agentsAct.deviceRead_frame a.toNat
    exact ⟨⟨_, r, n, s.agentsAct_step.1, h⟩, fun w => ⟨r, n, by rw [State.agentsAct_none w] at h ⊢; exact h⟩⟩
  all_goals exact ReadEffect.refl s

/-- The fields a bus read leaves alone. -/
theorem State.busRead_frame (s : State) (a : Word) :
    ∃ (sim : Sim) (brk : Break) (mods : Modules) (pins : Pins) (mid : List (List EnvEvent)) (n : Nat), (s.busRead a).2 =
      { s with sim := { sim with flashBusy := s.sim.flashBusy }, brk := brk, mods := mods, pins := pins,
               midInputs := mid, free := n } := by
  obtain ⟨⟨t, r, n, ⟨_, _, _, _, _, _, _, _, e⟩, h⟩, _⟩ := s.busRead_effect a
  subst e
  exact ⟨{ (s.busRead a).2.sim with flashBusy := s.sim.flashBusy }, _, _, _, _, n, by rw [h]⟩

/-- A read of RAM, ROM or FLASH gives the byte there and changes nothing. -/
theorem State.busRead_plain {s : State} {a : Word} (h : s.plainAt a) : s.busRead a = (s.byteAt a, s) := by
  unfold State.busRead State.byteAt
  rcases h with h | h | h <;> rw [h]

/-- RAM, ROM and FLASH can be read. -/
theorem State.canRead_of_plainAt {s : State} {a : Word} (h : s.plainAt a) : s.canRead a = true := by
  unfold State.canRead accessible
  rcases h with h | h | h <;> rw [h]

@[simp] theorem State.busRead_a (s : State) (a : Word) : (s.busRead a).2.a = s.a := by
  obtain ⟨_, _, _, _, _, _, h⟩ := s.busRead_frame a
  rw [h]

@[simp] theorem State.busRead_h (s : State) (a : Word) : (s.busRead a).2.h = s.h := by
  obtain ⟨_, _, _, _, _, _, h⟩ := s.busRead_frame a
  rw [h]

@[simp] theorem State.busRead_x (s : State) (a : Word) : (s.busRead a).2.x = s.x := by
  obtain ⟨_, _, _, _, _, _, h⟩ := s.busRead_frame a
  rw [h]

@[simp] theorem State.busRead_sp (s : State) (a : Word) : (s.busRead a).2.sp = s.sp := by
  obtain ⟨_, _, _, _, _, _, h⟩ := s.busRead_frame a
  rw [h]

@[simp] theorem State.busRead_pc (s : State) (a : Word) : (s.busRead a).2.pc = s.pc := by
  obtain ⟨_, _, _, _, _, _, h⟩ := s.busRead_frame a
  rw [h]

@[simp] theorem State.busRead_ccr (s : State) (a : Word) : (s.busRead a).2.ccr = s.ccr := by
  obtain ⟨_, _, _, _, _, _, h⟩ := s.busRead_frame a
  rw [h]

@[simp] theorem State.busRead_run (s : State) (a : Word) : (s.busRead a).2.run = s.run := by
  obtain ⟨_, _, _, _, _, _, h⟩ := s.busRead_frame a
  rw [h]

@[simp] theorem State.busRead_mode (s : State) (a : Word) : (s.busRead a).2.mode = s.mode := by
  obtain ⟨_, _, _, _, _, _, h⟩ := s.busRead_frame a
  rw [h]

@[simp] theorem State.busRead_irqHold (s : State) (a : Word) : (s.busRead a).2.irqHold = s.irqHold := by
  obtain ⟨_, _, _, _, _, _, h⟩ := s.busRead_frame a
  rw [h]

@[simp] theorem State.busRead_mem (s : State) (a : Word) : (s.busRead a).2.mem = s.mem := by
  obtain ⟨_, _, _, _, _, _, h⟩ := s.busRead_frame a
  rw [h]

@[simp] theorem State.busRead_cfg (s : State) (a : Word) : (s.busRead a).2.cfg = s.cfg := by
  obtain ⟨_, _, _, _, _, _, h⟩ := s.busRead_frame a
  rw [h]

@[simp] theorem State.busRead_justStored (s : State) (a : Word) : (s.busRead a).2.justStored = s.justStored := by
  obtain ⟨_, _, _, _, _, _, h⟩ := s.busRead_frame a
  rw [h]

@[simp] theorem State.busRead_written (s : State) (a : Word) : (s.busRead a).2.written = s.written := by
  obtain ⟨_, _, _, _, _, _, h⟩ := s.busRead_frame a
  rw [h]

@[simp] theorem State.busRead_link (s : State) (a : Word) : (s.busRead a).2.link = s.link := by
  obtain ⟨_, _, _, _, _, _, h⟩ := s.busRead_frame a
  rw [h]

@[simp] theorem State.busRead_inputs (s : State) (a : Word) : (s.busRead a).2.inputs = s.inputs := by
  obtain ⟨_, _, _, _, _, _, h⟩ := s.busRead_frame a
  rw [h]

@[simp] theorem State.busRead_flashBusy (s : State) (a : Word) : (s.busRead a).2.sim.flashBusy = s.sim.flashBusy := by
  obtain ⟨_, _, _, _, _, _, h⟩ := s.busRead_frame a
  rw [h]

@[simp] theorem State.busRead_canRead (s : State) (a b : Word) : (s.busRead a).2.canRead b = s.canRead b := by
  simp [State.canRead]

@[simp] theorem State.busRead_canWrite (s : State) (a b : Word) : (s.busRead a).2.canWrite b = s.canWrite b := by
  simp [State.canWrite]

@[simp] theorem State.busRead_byteAt (s : State) (a b : Word) : (s.busRead a).2.byteAt b = s.byteAt b := by
  simp [State.byteAt]

/-- What can be written can be read. -/
theorem State.canRead_of_canWrite {s : State} {a : Word} (h : s.canWrite a = true) : s.canRead a = true := by
  unfold State.canWrite at h
  unfold State.canRead accessible
  split at h <;> simp_all

/-- RAM can be written. -/
theorem State.canWrite_of_ramAt {s : State} {a : Word} (h : s.ramAt a) : s.canWrite a = true := by
  unfold State.canWrite
  rw [h]

/-- `withRead` at an accessible address. -/
@[simp] theorem State.withRead_ok {s : State} {a : Word} {k : Byte → State → Out} (h : s.canRead a = true) :
    s.withRead a k = k (s.busRead a).1 (s.busRead a).2 := if_pos h

/-- An access outside the modelled addresses answers no next state. -/
theorem State.noAccess_ne_next (s t : State) (a : Word) : s.noAccess a ≠ .next t := by
  unfold State.noAccess
  split <;> intro h <;> cases h

/-- Everything a read followed by `k` can do if it answers a next state. -/
theorem State.withRead_next {s t : State} {a : Word} {k : Byte → State → Out} (h : s.withRead a k = .next t) :
    s.canRead a = true ∧ k (s.busRead a).1 (s.busRead a).2 = .next t := by
  unfold State.withRead at h
  split at h
  · exact ⟨‹_›, h⟩
  · exact absurd h (s.noAccess_ne_next t a)

/-- Everything a two-byte read followed by `k` can do if it answers a next state. -/
theorem State.withRead16_next {s t : State} {a : Word} {k : Word → State → Out} (h : s.withRead16 a k = .next t) :
    s.canRead a = true ∧ s.canRead (a + 1) = true ∧
      k (joinBytes (s.busRead a).1 ((s.busRead a).2.busRead (a + 1)).1) ((s.busRead a).2.busRead (a + 1)).2 = .next t := by
  obtain ⟨h1, h2⟩ := State.withRead_next h
  obtain ⟨h3, h4⟩ := State.withRead_next h2
  exact ⟨h1, by simpa using h3, h4⟩

/-- `withRead16` at two accessible addresses. -/
theorem State.withRead16_ok {s : State} {a : Word} {k : Word → State → Out} (h : s.canRead a = true)
    (h' : s.canRead (a + 1) = true) :
    s.withRead16 a k =
      k (joinBytes (s.busRead a).1 ((s.busRead a).2.busRead (a + 1)).1) ((s.busRead a).2.busRead (a + 1)).2 := by
  unfold State.withRead16
  rw [State.withRead_ok h, State.withRead_ok (by simpa using h')]

/-- `withRead16` over two plain bytes. -/
theorem State.withRead16_plain {s : State} {a : Word} {k : Word → State → Out} (h : s.plainAt a)
    (h' : s.plainAt (a + 1)) : s.withRead16 a k = k (joinBytes (s.byteAt a) (s.byteAt (a + 1))) s := by
  rw [State.withRead16_ok (State.canRead_of_plainAt h) (State.canRead_of_plainAt h'), State.busRead_plain h,
    State.busRead_plain h']

/-- What a device write may change: the SIM and BREAK registers, the ports, the /IRQ latch, the timer and the cell at its
address. -/
def WriteFrame (s : State) (a : Nat) (v : Byte) (t : State) : Prop :=
  ∃ sim brk ports latch tim mem,
    t = { s with sim := sim, brk := brk, mem := mem,
                 mods := { s.mods with ports := ports, irq := { s.mods.irq with latch := latch }, tim := tim } } ∧
    (mem = s.mem ∨ mem = s.mem.write a v)

/-- A device write changes those, nothing else. -/
theorem State.deviceWrite_frame (s : State) (a : Nat) (v : Byte) : WriteFrame s a v (s.deviceWrite a v) := by
  unfold State.deviceWrite State.latchCell State.moduleWrite
  repeat' apply ite_holds (WriteFrame s a v)
  all_goals first
    | exact ⟨_, _, _, _, _, _, rfl, .inl rfl⟩
    | exact ⟨_, _, _, _, _, _, rfl, .inr rfl⟩

/-- A bus write changes the SIM, BREAK and module registers, the pins, the records of stored bytes and the byte at its
address. -/
theorem State.busWrite_frame (s : State) (a : Word) (v : Byte) :
    ∃ sim brk mods pins mid mem js wr, s.busWrite a v =
      { s with sim := sim, brk := brk, mods := mods, pins := pins, midInputs := mid, mem := mem, justStored := js,
               written := wr } ∧
      (mem = s.mem ∨ mem = s.mem.write a.toNat v) := by
  unfold State.busWrite
  split
  · obtain ⟨sim, brk, ports, latch, tim, mem, h, hm⟩ := s.agentsAct.deviceWrite_frame a.toNat v
    obtain ⟨_, _, _, _, _, _, _, _, e⟩ := s.agentsAct_step.1
    rw [e] at h hm
    rw [e]
    exact ⟨sim, brk, _, _, _, mem, s.justStored, s.written, h, hm⟩
  · exact ⟨s.sim, s.brk, s.mods, s.pins, s.midInputs, _, _, _, rfl, .inr rfl⟩
  · split
    · exact ⟨_, s.brk, s.mods, s.pins, s.midInputs, s.mem, s.justStored, s.written, rfl, .inl rfl⟩
    · exact ⟨s.sim, s.brk, s.mods, s.pins, s.midInputs, s.mem, s.justStored, s.written, rfl, .inl rfl⟩
  all_goals exact ⟨s.sim, s.brk, s.mods, s.pins, s.midInputs, s.mem, s.justStored, s.written, rfl, .inl rfl⟩

/-- With no batch of the devices waiting a bus write changes of the modules the ports, the /IRQ latch and the timer alone. -/
theorem State.busWrite_mods {s : State} (a : Word) (v : Byte) (w : s.midInputs = []) :
    (s.busWrite a v).pins = s.pins ∧ (s.busWrite a v).midInputs = [] ∧ ∃ ports latch tim,
      (s.busWrite a v).mods =
        { s.mods with ports := ports, irq := { s.mods.irq with latch := latch }, tim := tim } := by
  unfold State.busWrite
  split
  · obtain ⟨sim, brk, ports, latch, tim, mem, h, hm⟩ := s.agentsAct.deviceWrite_frame a.toNat v
    rw [State.agentsAct_none w] at h ⊢
    rw [h]
    exact ⟨rfl, w, ports, latch, tim, rfl⟩
  · exact ⟨rfl, w, _, _, _, rfl⟩
  · split <;> exact ⟨rfl, w, _, _, _, rfl⟩
  all_goals exact ⟨rfl, w, _, _, _, rfl⟩

@[simp] theorem State.busWrite_a (s : State) (a : Word) (v : Byte) : (s.busWrite a v).a = s.a := by
  obtain ⟨_, _, _, _, _, _, _, _, h, _⟩ := s.busWrite_frame a v
  rw [h]

@[simp] theorem State.busWrite_h (s : State) (a : Word) (v : Byte) : (s.busWrite a v).h = s.h := by
  obtain ⟨_, _, _, _, _, _, _, _, h, _⟩ := s.busWrite_frame a v
  rw [h]

@[simp] theorem State.busWrite_x (s : State) (a : Word) (v : Byte) : (s.busWrite a v).x = s.x := by
  obtain ⟨_, _, _, _, _, _, _, _, h, _⟩ := s.busWrite_frame a v
  rw [h]

@[simp] theorem State.busWrite_sp (s : State) (a : Word) (v : Byte) : (s.busWrite a v).sp = s.sp := by
  obtain ⟨_, _, _, _, _, _, _, _, h, _⟩ := s.busWrite_frame a v
  rw [h]

@[simp] theorem State.busWrite_pc (s : State) (a : Word) (v : Byte) : (s.busWrite a v).pc = s.pc := by
  obtain ⟨_, _, _, _, _, _, _, _, h, _⟩ := s.busWrite_frame a v
  rw [h]

@[simp] theorem State.busWrite_ccr (s : State) (a : Word) (v : Byte) : (s.busWrite a v).ccr = s.ccr := by
  obtain ⟨_, _, _, _, _, _, _, _, h, _⟩ := s.busWrite_frame a v
  rw [h]

@[simp] theorem State.busWrite_run (s : State) (a : Word) (v : Byte) : (s.busWrite a v).run = s.run := by
  obtain ⟨_, _, _, _, _, _, _, _, h, _⟩ := s.busWrite_frame a v
  rw [h]

@[simp] theorem State.busWrite_mode (s : State) (a : Word) (v : Byte) : (s.busWrite a v).mode = s.mode := by
  obtain ⟨_, _, _, _, _, _, _, _, h, _⟩ := s.busWrite_frame a v
  rw [h]

@[simp] theorem State.busWrite_irqHold (s : State) (a : Word) (v : Byte) : (s.busWrite a v).irqHold = s.irqHold := by
  obtain ⟨_, _, _, _, _, _, _, _, h, _⟩ := s.busWrite_frame a v
  rw [h]

@[simp] theorem State.busWrite_cfg (s : State) (a : Word) (v : Byte) : (s.busWrite a v).cfg = s.cfg := by
  obtain ⟨_, _, _, _, _, _, _, _, h, _⟩ := s.busWrite_frame a v
  rw [h]

@[simp] theorem State.busWrite_free (s : State) (a : Word) (v : Byte) : (s.busWrite a v).free = s.free := by
  obtain ⟨_, _, _, _, _, _, _, _, h, _⟩ := s.busWrite_frame a v
  rw [h]

@[simp] theorem State.busWrite_link (s : State) (a : Word) (v : Byte) : (s.busWrite a v).link = s.link := by
  obtain ⟨_, _, _, _, _, _, _, _, h, _⟩ := s.busWrite_frame a v
  rw [h]

@[simp] theorem State.busWrite_inputs (s : State) (a : Word) (v : Byte) : (s.busWrite a v).inputs = s.inputs := by
  obtain ⟨_, _, _, _, _, _, _, _, h, _⟩ := s.busWrite_frame a v
  rw [h]

/-- A write leaves every other byte alone. -/
theorem State.busWrite_byteAt_other (s : State) {a b : Word} (v : Byte) (h : b ≠ a) :
    (s.busWrite a v).byteAt b = s.byteAt b := by
  obtain ⟨_, _, _, _, _, mem, _, _, hs, hm⟩ := s.busWrite_frame a v
  unfold State.byteAt
  rw [hs]
  rcases hm with hm | hm
  · rw [hm]
  · rw [hm]
    exact Memory.read_write_other _ _ fun hc => h (BitVec.eq_of_toNat_eq hc)

/-- A write to RAM stores the byte. -/
theorem State.busWrite_byteAt_ram {s : State} {a : Word} (v : Byte) (hw : Memory.wf s.mem = true) (h : s.ramAt a) :
    (s.busWrite a v).byteAt a = v := by
  unfold State.busWrite State.byteAt
  rw [h]
  exact Memory.read_write_same _ _ hw

/-- A write to RAM changes memory and the records of stored bytes alone. -/
theorem State.busWrite_ram {s : State} {a : Word} (v : Byte) (h : s.ramAt a) :
    s.busWrite a v = ((s.setMem (s.mem.write a.toNat v)).setJustStored
      (if s.mem.read a.toNat = v then s.justStored else a :: s.justStored)).setWritten (a :: s.written) := by
  unfold State.busWrite
  rw [h]

/-- A write keeps the canonical form of memory. -/
theorem State.busWrite_wf {s : State} (a : Word) (v : Byte) (hw : Memory.wf s.mem = true) :
    Memory.wf (s.busWrite a v).mem = true := by
  obtain ⟨_, _, _, _, _, mem, _, _, hs, hm⟩ := s.busWrite_frame a v
  rw [hs]
  rcases hm with hm | hm
  · rw [hm]
    exact hw
  · rw [hm]
    exact Memory.wf_write _ _ hw a.isLt

/-- `withWrite` at a writable address. -/
@[simp] theorem State.withWrite_ok {s : State} {a : Word} {v : Byte} {k : State → Out} (h : s.canWrite a = true) :
    s.withWrite a v k = k (s.busWrite a v) := if_pos h

/-- Everything a write followed by `k` can do if it answers a next state. -/
theorem State.withWrite_next {s t : State} {a : Word} {v : Byte} {k : State → Out} (h : s.withWrite a v k = .next t) :
    s.canWrite a = true ∧ k (s.busWrite a v) = .next t := by
  unfold State.withWrite at h
  split at h
  · exact ⟨‹_›, h⟩
  · exact absurd h (s.noAccess_ne_next t a)

/-- Everything a push followed by `k` can do if it answers a next state. -/
theorem State.withPush_next {s t : State} {v : Byte} {k : State → Out} (h : s.withPush v k = .next t) :
    s.canWrite s.sp = true ∧ k ((s.busWrite s.sp v).setSp (s.sp - 1)) = .next t := by
  obtain ⟨h1, h2⟩ := State.withWrite_next h
  exact ⟨h1, by simpa using h2⟩

/-- A push where the stack is writable. -/
theorem State.withPush_ok {s : State} {v : Byte} {k : State → Out} (h : s.canWrite s.sp = true) :
    s.withPush v k = k ((s.busWrite s.sp v).setSp (s.sp - 1)) := by
  unfold State.withPush
  rw [State.withWrite_ok h, State.busWrite_sp]

/-- Everything a pull followed by `k` can do if it answers a next state. -/
theorem State.withPull_next {s t : State} {k : Byte → State → Out} (h : s.withPull k = .next t) :
    s.canRead (s.sp + 1) = true ∧
      k ((s.setSp (s.sp + 1)).busRead (s.sp + 1)).1 ((s.setSp (s.sp + 1)).busRead (s.sp + 1)).2 = .next t :=
  State.withRead_next h

/-- A pull from a plain byte. -/
theorem State.withPull_plain {s : State} {k : Byte → State → Out} (h : s.plainAt (s.sp + 1)) :
    s.withPull k = k (s.byteAt (s.sp + 1)) (s.setSp (s.sp + 1)) := by
  have h' : (s.setSp (s.sp + 1)).plainAt (s.sp + 1) := h
  unfold State.withPull
  rw [State.withRead_ok (State.canRead_of_plainAt h'), State.busRead_plain h']
  rfl

/-- Everything a push of the return address followed by `k` can do if it answers a next state. -/
theorem State.withPushPc_next {s t : State} {k : State → Out} (h : s.withPushPc k = .next t) :
    ∃ u, s.canWrite s.sp = true ∧ u = (s.busWrite s.sp (loByte s.pc)).setSp (s.sp - 1) ∧ u.canWrite u.sp = true ∧
      k ((u.busWrite u.sp (hiByte s.pc)).setSp (u.sp - 1)) = .next t := by
  obtain ⟨h1, h2⟩ := State.withPush_next h
  obtain ⟨h3, h4⟩ := State.withPush_next h2
  exact ⟨_, h1, rfl, h3, by simpa using h4⟩

/-- Everything a pull of the return address followed by `k` can do if it answers a next state. -/
theorem State.withPullPc_next {s t : State} {k : State → Out} (h : s.withPullPc k = .next t) :
    ∃ u w lo hi, s.canRead (s.sp + 1) = true ∧ (s.setSp (s.sp + 1)).busRead (s.sp + 1) = (hi, u) ∧
      u.canRead (u.sp + 1) = true ∧ (u.setSp (u.sp + 1)).busRead (u.sp + 1) = (lo, w) ∧
      k (w.setPc (joinBytes hi lo)) = .next t := by
  obtain ⟨h1, h2⟩ := State.withPull_next h
  obtain ⟨h3, h4⟩ := State.withPull_next h2
  exact ⟨_, _, _, _, h1, rfl, h3, rfl, h4⟩

@[simp] theorem State.branch_pc (s : State) (c : Bool) (rr : Byte) :
    (s.branch c rr).pc = if c then s.pc + sext16 rr else s.pc := rfl

/-- H:X after both halves are written. -/
@[simp] theorem joinBytes_hi_lo (w : Word) : joinBytes (hiByte w) (loByte w) = w := by
  apply BitVec.eq_of_getLsbD_eq
  intro i hi
  simp only [joinBytes, hiByte, loByte, BitVec.getLsbD_append, BitVec.getLsbD_extractLsb']
  by_cases h : i < 8
  · simp [h]
  · simp only [h]
    have h8 : i - 8 < 8 := by omega
    simp [h8, show 8 + (i - 8) = i by omega]

@[simp] theorem State.setHX_hx (s : State) (v : Word) : (s.setHX v).hx = v := joinBytes_hi_lo v

end Sys2Proof.Machine
end

