-- ==== Sys2Proof/Laws/Operands.lean ====
section
/-! SUPPORT. For each operand form and each shape of instruction of Machine/Operands.lean one lemma that says everything it
can do if it answers a next state, and for the operand forms the lemma that says when they are fetched. -/

namespace Sys2Proof.Machine

/-- Fetching an operand is a read effect. -/
theorem Operand.value_effect (o : Operand) (s : State) : ReadEffect s (o.value s).2 := by
  cases o with
  | imm ii => exact ReadEffect.refl s
  | mem m => exact s.busRead_effect _

/-- Fetching a 16-bit operand is a read effect. -/
theorem Operand16.value_effect (o : Operand16) (s : State) : ReadEffect s (o.value s).2 := by
  cases o with
  | imm jjkk => exact ReadEffect.refl s
  | dir dd => exact (s.busRead_effect _).trans (State.busRead_effect _ _)

/-- A readable operand is fetched. -/
theorem State.withOperand_ok {s : State} {o : Operand} {k : Byte → State → Out} (h : o.readable s) :
    s.withOperand o k = k (o.value s).1 (o.value s).2 := by
  cases o with
  | imm ii => rfl
  | mem m => exact State.withRead_ok h

/-- Everything an operand fetch followed by `k` can do if it answers a next state. -/
theorem State.withOperand_next {s t : State} {o : Operand} {k : Byte → State → Out} (h : s.withOperand o k = .next t) :
    o.readable s ∧ k (o.value s).1 (o.value s).2 = .next t := by
  cases o with
  | imm ii => exact ⟨trivial, h⟩
  | mem m => exact State.withRead_next h

/-- A readable 16-bit operand is fetched. -/
theorem State.withOperand16_ok {s : State} {o : Operand16} {k : Word → State → Out} (h : o.readable s) :
    s.withOperand16 o k = k (o.value s).1 (o.value s).2 := by
  cases o with
  | imm jjkk => rfl
  | dir dd => exact State.withRead16_ok h.1 h.2

/-- Everything a 16-bit operand fetch followed by `k` can do if it answers a next state. -/
theorem State.withOperand16_next {s t : State} {o : Operand16} {k : Word → State → Out}
    (h : s.withOperand16 o k = .next t) : o.readable s ∧ k (o.value s).1 (o.value s).2 = .next t := by
  cases o with
  | imm jjkk => exact ⟨trivial, h⟩
  | dir dd =>
    obtain ⟨h1, h2, h3⟩ := State.withRead16_next h
    exact ⟨⟨h1, h2⟩, h3⟩

/-- Everything LDA can do. -/
theorem loadA_next {o : Operand} {s t : State} (h : loadA o s = .next t) :
    o.readable s ∧ t = ((o.value s).2.setA (o.value s).1).setCcr ((o.value s).2.ccr.moved8 (o.value s).1) := by
  obtain ⟨h1, h2⟩ := State.withOperand_next h
  exact ⟨h1, by cases h2; rfl⟩

/-- Everything LDX can do. -/
theorem loadX_next {o : Operand} {s t : State} (h : loadX o s = .next t) :
    o.readable s ∧ t = ((o.value s).2.setX (o.value s).1).setCcr ((o.value s).2.ccr.moved8 (o.value s).1) := by
  obtain ⟨h1, h2⟩ := State.withOperand_next h
  exact ⟨h1, by cases h2; rfl⟩

/-- Everything LDHX can do. -/
theorem loadHX_next {o : Operand16} {s t : State} (h : loadHX o s = .next t) :
    o.readable s ∧ t = ((o.value s).2.setHX (o.value s).1).setCcr ((o.value s).2.ccr.moved16 (o.value s).1) := by
  obtain ⟨h1, h2⟩ := State.withOperand16_next h
  exact ⟨h1, by cases h2; rfl⟩

/-- Everything STA and STX can do. -/
theorem storeReg_next {m : AddrMode} {v : Byte} {s t : State} (h : storeReg m v s = .next t) :
    s.canWrite (m.ea s) = true ∧ t = (s.busWrite (m.ea s) v).setCcr (s.ccr.moved8 v) := by
  obtain ⟨h1, h2⟩ := State.withWrite_next h
  exact ⟨h1, by cases h2; simp⟩

/-- Everything STHX can do. -/
theorem storeHX_next {dd : Byte} {s t : State} (h : storeHX dd s = .next t) :
    s.canWrite (zext16 dd) = true ∧
      ∃ u, u = s.busWrite (zext16 dd) (hiByte s.hx) ∧ u.canWrite (zext16 dd + 1) = true ∧
        t = (u.busWrite (zext16 dd + 1) (loByte s.hx)).setCcr (s.ccr.moved16 s.hx) := by
  unfold storeHX State.withWrite16 at h
  obtain ⟨h1, h2⟩ := State.withWrite_next h
  obtain ⟨h3, h4⟩ := State.withWrite_next h2
  exact ⟨h1, _, rfl, h3, by cases h4; simp⟩

/-- Everything ADC, ADD, AND, EOR, ORA, SBC and SUB can do. -/
theorem accumulate_next {f : Byte → Byte → Flags → Byte × Flags} {o : Operand} {s t : State}
    (h : accumulate f o s = .next t) :
    o.readable s ∧ ∃ m u, o.value s = (m, u) ∧ t = (u.setA (f u.a m u.ccr).1).setCcr (f u.a m u.ccr).2 := by
  obtain ⟨h1, h2⟩ := State.withOperand_next h
  exact ⟨h1, _, _, rfl, by cases h2; rfl⟩

/-- Everything BIT, CMP and CPX can do. -/
theorem examine_next {reg : State → Byte} {f : Byte → Byte → Flags → Byte × Flags} {o : Operand} {s t : State}
    (h : examine reg f o s = .next t) :
    o.readable s ∧ ∃ m u, o.value s = (m, u) ∧ t = u.setCcr (f (reg u) m u.ccr).2 := by
  obtain ⟨h1, h2⟩ := State.withOperand_next h
  exact ⟨h1, _, _, rfl, by cases h2; rfl⟩

/-- A read-modify-write of a writable address. -/
theorem modifyMem_ok {f : Byte → Flags → Byte × Flags} {m : AddrMode} {s : State} (h : s.canWrite (m.ea s) = true) :
    modifyMem f m s = .next
      (((s.busRead (m.ea s)).2.busWrite (m.ea s) (f (s.busRead (m.ea s)).1 s.ccr).1).setCcr
        (f (s.busRead (m.ea s)).1 s.ccr).2) := by
  unfold modifyMem
  rw [State.withRead_ok (State.canRead_of_canWrite h), State.withWrite_ok (by simpa using h), State.busRead_ccr]

/-- Everything a read-modify-write of memory can do. -/
theorem modifyMem_next {f : Byte → Flags → Byte × Flags} {m : AddrMode} {s t : State} (h : modifyMem f m s = .next t) :
    s.canWrite (m.ea s) = true ∧
      t = ((s.busRead (m.ea s)).2.busWrite (m.ea s) (f (s.busRead (m.ea s)).1 s.ccr).1).setCcr
        (f (s.busRead (m.ea s)).1 s.ccr).2 := by
  obtain ⟨h1, h2⟩ := State.withRead_next h
  obtain ⟨h3, h4⟩ := State.withWrite_next h2
  exact ⟨by simpa using h3, by cases h4; simp⟩

/-- Everything TST of memory can do. -/
theorem testMem_next {m : AddrMode} {s t : State} (h : testMem m s = .next t) :
    s.canRead (m.ea s) = true ∧ t = (s.busRead (m.ea s)).2.setCcr (s.ccr.moved8 (s.busRead (m.ea s)).1) := by
  obtain ⟨h1, h2⟩ := State.withRead_next h
  exact ⟨h1, by cases h2; simp⟩

/-- Everything CLR of memory can do. -/
theorem clearMem_next {m : AddrMode} {s t : State} (h : clearMem m s = .next t) :
    s.canWrite (m.ea s) = true ∧ t = (s.busWrite (m.ea s) 0x00#8).setCcr s.ccr.cleared := by
  obtain ⟨h1, h2⟩ := State.withWrite_next h
  exact ⟨h1, by cases h2; simp⟩

/-- BSET and BCLR of a writable address. -/
theorem modifyBit_ok {f : Byte → Byte} {dd : Byte} {s : State} (h : s.canWrite (zext16 dd) = true) :
    modifyBit f dd s = .next
      ((s.busRead (zext16 dd)).2.busWrite (zext16 dd) (f (s.busRead (zext16 dd)).1)) := by
  unfold modifyBit
  rw [State.withRead_ok (State.canRead_of_canWrite h), State.withWrite_ok (by simpa using h)]

/-- Everything BSET and BCLR can do. -/
theorem modifyBit_next {f : Byte → Byte} {dd : Byte} {s t : State} (h : modifyBit f dd s = .next t) :
    s.canWrite (zext16 dd) = true ∧
      t = (s.busRead (zext16 dd)).2.busWrite (zext16 dd) (f (s.busRead (zext16 dd)).1) := by
  obtain ⟨h1, h2⟩ := State.withRead_next h
  obtain ⟨h3, h4⟩ := State.withWrite_next h2
  exact ⟨by simpa using h3, by cases h4; rfl⟩

/-- Everything BRSET and BRCLR can do. -/
theorem branchOnBit_next {want : Bool} {n : BitVec 3} {dd rr : Byte} {s t : State}
    (h : branchOnBit want n dd rr s = .next t) :
    s.canRead (zext16 dd) = true ∧ ∃ v u, s.busRead (zext16 dd) = (v, u) ∧
      t = (u.setCcr { u.ccr with c := v.getLsbD n.toNat }).branch (v.getLsbD n.toNat == want) rr := by
  obtain ⟨h1, h2⟩ := State.withRead_next h
  exact ⟨h1, _, _, rfl, by cases h2; rfl⟩

/-- Everything CBEQ on memory without an increment can do. -/
theorem compareBranch_next {m : AddrMode} {rr : Byte} {s t : State} (h : compareBranch m rr s = .next t) :
    s.canRead (m.ea s) = true ∧ ∃ v u, s.busRead (m.ea s) = (v, u) ∧ t = u.branch (u.a == v) rr := by
  obtain ⟨h1, h2⟩ := State.withRead_next h
  exact ⟨h1, _, _, rfl, by cases h2; rfl⟩

/-- Everything CBEQ with post-increment can do. -/
theorem compareBranchInc_next {m : AddrMode} {rr : Byte} {s t : State} (h : compareBranchInc m rr s = .next t) :
    s.canRead (m.ea s) = true ∧ ∃ v u, s.busRead (m.ea s) = (v, u) ∧
      t = (u.setHX (u.hx + 1)).branch (u.a == v) rr := by
  obtain ⟨h1, h2⟩ := State.withRead_next h
  exact ⟨h1, _, _, rfl, by cases h2; rfl⟩

/-- DBNZ on a writable address. -/
theorem decrementBranch_ok {m : AddrMode} {rr : Byte} {s : State} (h : s.canWrite (m.ea s) = true) :
    decrementBranch m rr s = .next
      (((s.busRead (m.ea s)).2.busWrite (m.ea s) ((s.busRead (m.ea s)).1 - 1)).branch
        ((s.busRead (m.ea s)).1 - 1 != 0x00#8) rr) := by
  unfold decrementBranch
  rw [State.withRead_ok (State.canRead_of_canWrite h), State.withWrite_ok (by simpa using h)]

/-- Everything DBNZ on memory can do. -/
theorem decrementBranch_next {m : AddrMode} {rr : Byte} {s t : State} (h : decrementBranch m rr s = .next t) :
    s.canWrite (m.ea s) = true ∧
      t = ((s.busRead (m.ea s)).2.busWrite (m.ea s) ((s.busRead (m.ea s)).1 - 1)).branch
        ((s.busRead (m.ea s)).1 - 1 != 0x00#8) rr := by
  obtain ⟨h1, h2⟩ := State.withRead_next h
  obtain ⟨h3, h4⟩ := State.withWrite_next h2
  exact ⟨by simpa using h3, by cases h4; rfl⟩

/-- Everything the second half of a MOV can do. -/
theorem moveTo_next {a : Word} {v : Byte} {s t : State} (h : moveTo a v s = .next t) :
    s.canWrite a = true ∧ t = (s.busWrite a v).setCcr (s.ccr.moved8 v) := by
  obtain ⟨h1, h2⟩ := State.withWrite_next h
  exact ⟨h1, by cases h2; simp⟩

/-- Everything JSR can do. -/
theorem call_next {m : AddrMode} {s t : State} (h : call m s = .next t) :
    ∃ u, s.canWrite s.sp = true ∧ u = (s.busWrite s.sp (loByte s.pc)).setSp (s.sp - 1) ∧ u.canWrite u.sp = true ∧
      t = ((u.busWrite u.sp (hiByte s.pc)).setSp (u.sp - 1)).setPc (m.ea s) := by
  obtain ⟨u, h1, h2, h3, h4⟩ := State.withPushPc_next h
  exact ⟨u, h1, h2, h3, by cases h4; rfl⟩

end Sys2Proof.Machine
end

