-- ==== Sys2Proof/Laws/Regions.lean ====
section
/-! SUPPORT. Where each region of the memory map lies. -/

namespace Sys2Proof.Machine

theorem flashBase_bounds (v : Variant) : 0xEE00 ≤ flashBase v ∧ flashBase v ≤ 0xF800 := by
  cases v <;> decide

/-- The rows of the map with their ranges: the one place where `region` is unfolded. -/
theorem region_rows (p : Params) (a : Nat) :
    (a < 0x40 ∧ region p a = .device) ∨ (0x40 ≤ a ∧ a < 0x80 ∧ region p a = .reserved) ∨
    (0x80 ≤ a ∧ a < 0x100 ∧ region p a = .ram) ∨ (0x100 ≤ a ∧ a < 0x2800 ∧ region p a = .unimplemented) ∨
    (0x2800 ≤ a ∧ a < 0x2E00 ∧ region p a = .rom) ∨
    (0x2E00 ≤ a ∧ a < flashBase p.variant ∧ region p a = .unimplemented) ∨
    (flashBase p.variant ≤ a ∧ a < 0xFE00 ∧ region p a = .flash) ∨ (a = 0xFE07 ∧ region p a = .reserved) ∨
    (0xFE00 ≤ a ∧ a < 0xFE0D ∧ a ≠ 0xFE07 ∧ region p a = .device) ∨
    (0xFE0D ≤ a ∧ a < 0xFE10 ∧ region p a = .reserved) ∨ (0xFE10 ≤ a ∧ a < 0xFFB0 ∧ region p a = .rom) ∨
    ((a = 0xFFBF ∨ a = 0xFFC1) ∧ region p a = .reserved) ∨
    (0xFFB0 ≤ a ∧ a ≠ 0xFFBF ∧ a ≠ 0xFFC1 ∧ region p a = .flash) := by
  have hb := flashBase_bounds p.variant
  unfold region
  by_cases h1 : a < 0x40
  · rw [if_pos h1]; simp [h1]
  rw [if_neg h1]
  by_cases h2 : a < 0x80
  · rw [if_pos h2]; simp; omega
  rw [if_neg h2]
  by_cases h3 : a < 0x100
  · rw [if_pos h3]; simp; omega
  rw [if_neg h3]
  by_cases h4 : a < 0x2800
  · rw [if_pos h4]; simp; omega
  rw [if_neg h4]
  by_cases h5 : a < 0x2E00
  · rw [if_pos h5]; simp; omega
  rw [if_neg h5]
  by_cases h6 : a < flashBase p.variant
  · rw [if_pos h6]; simp; omega
  rw [if_neg h6]
  by_cases h7 : a < 0xFE00
  · rw [if_pos h7]; simp; omega
  rw [if_neg h7]
  by_cases h8 : a = 0xFE07
  · rw [if_pos h8]; simp; omega
  rw [if_neg h8]
  by_cases h9 : a < 0xFE0D
  · rw [if_pos h9]; simp; omega
  rw [if_neg h9]
  by_cases h10 : a < 0xFE10
  · rw [if_pos h10]; simp; omega
  rw [if_neg h10]
  by_cases h11 : a < 0xFFB0
  · rw [if_pos h11]; simp; omega
  rw [if_neg h11]
  by_cases h12 : a = 0xFFBF
  · rw [if_pos h12]; simp; omega
  rw [if_neg h12]
  by_cases h13 : a = 0xFFC1
  · rw [if_pos h13]; simp; omega
  rw [if_neg h13]
  simp
  omega

/-- RAM is $0080 to $00FF (R61). -/
theorem region_ram_iff (p : Params) (a : Nat) : region p a = .ram ↔ 0x80 ≤ a ∧ a < 0x100 := by
  have hb := flashBase_bounds p.variant
  rcases region_rows p a with h | h | h | h | h | h | h | h | h | h | h | h | h <;>
    first
    | (rw [h.2.2.2]; simp; omega)
    | (rw [h.2.2]; simp; omega)
    | (rw [h.2]; simp; omega)

/-- The device registers are $0000 to $003F and $FE00 to $FE0C less $FE07 (R58). -/
theorem region_device_iff (p : Params) (a : Nat) :
    region p a = .device ↔ a < 0x40 ∨ (0xFE00 ≤ a ∧ a < 0xFE0D ∧ a ≠ 0xFE07) := by
  have hb := flashBase_bounds p.variant
  rcases region_rows p a with h | h | h | h | h | h | h | h | h | h | h | h | h <;>
    first
    | (rw [h.2.2.2]; simp; omega)
    | (rw [h.2.2]; simp; omega)
    | (rw [h.2]; simp; omega)

/-- FLASH and ROM lie above $27FF. -/
theorem region_nonVolatile_high {p : Params} {a : Nat} (h : region p a = .flash ∨ region p a = .rom) : 0x2800 ≤ a := by
  have hb := flashBase_bounds p.variant
  rcases region_rows p a with h' | h' | h' | h' | h' | h' | h' | h' | h' | h' | h' | h' | h' <;> simp [h'] at h <;> omega

/-- From $FFC2 on all is FLASH. -/
theorem region_vectors (p : Params) {a : Nat} (h : 0xFFC2 ≤ a) : region p a = .flash := by
  have hb := flashBase_bounds p.variant
  rcases region_rows p a with h' | h' | h' | h' | h' | h' | h' | h' | h' | h' | h' | h' | h' <;>
    first | exact h'.2.2.2 | omega

/-- $FE10 to $FFAF is ROM. -/
theorem region_monitorRom (p : Params) {a : Nat} (h : 0xFE10 ≤ a) (h' : a < 0xFFB0) : region p a = .rom := by
  have hb := flashBase_bounds p.variant
  rcases region_rows p a with h' | h' | h' | h' | h' | h' | h' | h' | h' | h' | h' | h' | h' <;>
    first | exact h'.2.2 | omega

/-- The vectors of both modes are plain bytes. -/
theorem State.plainAt_vector (s : State) {a : Word} (h : 0xFFC2 ≤ a.toNat ∨ (0xFE10 ≤ a.toNat ∧ a.toNat < 0xFFB0)) :
    s.plainAt a := by
  rcases h with h | ⟨h, h'⟩
  · exact .inr (.inr (region_vectors _ h))
  · exact .inr (.inl (region_monitorRom _ h h'))

end Sys2Proof.Machine
end

