-- ==== Sys2Proof/Laws/Effect.lean ====
section
/-! SUPPORT. What every instruction, whatever its registers and flags, may do to the rest of the machine. -/

namespace Sys2Proof.Machine

/-- What holds across reads, writes and register updates. -/
structure Effect (s t : State) : Prop where
  cfg : t.cfg = s.cfg
  mode : t.mode = s.mode
  /-- The canonical form of memory. -/
  wf : Memory.wf s.mem = true → Memory.wf t.mem = true
  /-- FLASH and ROM. -/
  kept : ∀ a, s.nonVolatileAt a → t.byteAt a = s.byteAt a
  /-- Only resets of R312 are requested. -/
  resetReq : s.sim.resetReq &&& 0x05#8 = 0x00#8 → t.sim.resetReq &&& 0x05#8 = 0x00#8
  latch : t.sim.intLatch = s.sim.intLatch
  /-- SRSR is kept or cleared. -/
  srsr : t.sim.srsr = s.sim.srsr ∨ t.sim.srsr = 0x00#8
  /-- CONFIG1 keeps its first write. -/
  config1 : s.sim.config1Written = true → t.sim.config1Written = true ∧ t.sim.config1 = s.sim.config1
  /-- CONFIG1 that is not written is not changed. -/
  config1Kept : t.sim.config1Written = false → s.sim.config1Written = false ∧ t.sim.config1 = s.sim.config1
  run : s.run = .running → t.run = .running

theorem Effect.refl (s : State) : Effect s s :=
  ⟨rfl, rfl, id, fun _ _ => rfl, id, rfl, .inl rfl, fun h => ⟨h, rfl⟩, fun h => ⟨h, rfl⟩, id⟩

theorem Effect.trans {s t u : State} (h : Effect s t) (h' : Effect t u) : Effect s u where
  cfg := h'.cfg.trans h.cfg
  mode := h'.mode.trans h.mode
  wf w := h'.wf (h.wf w)
  kept a ha := (h'.kept a (by unfold State.nonVolatileAt at ha ⊢; rw [h.cfg]; exact ha)).trans (h.kept a ha)
  resetReq w := h'.resetReq (h.resetReq w)
  latch := h'.latch.trans h.latch
  srsr := by
    rcases h'.srsr with e | e
    · rw [e]
      exact h.srsr
    · exact .inr e
  config1 w := ⟨(h'.config1 (h.config1 w).1).1, ((h'.config1 (h.config1 w).1).2).trans (h.config1 w).2⟩
  config1Kept w := ⟨(h.config1Kept (h'.config1Kept w).1).1,
    ((h'.config1Kept w).2).trans (h.config1Kept (h'.config1Kept w).1).2⟩
  run w := h'.run (h.run w)

/-- Registers, flags, PC, SP and the BREAK module are free. -/
theorem Effect.registers {s t : State} (h : Effect s t) (u : State) (hc : u.cfg = t.cfg) (hm : u.mode = t.mode)
    (hs : u.sim = t.sim) (hd : u.mem = t.mem) (hr : t.run = .running → u.run = .running) : Effect s u where
  cfg := hc.trans h.cfg
  mode := hm.trans h.mode
  wf w := by rw [hd]; exact h.wf w
  kept a ha := by unfold State.byteAt; rw [hd]; exact h.kept a ha
  resetReq w := by rw [hs]; exact h.resetReq w
  latch := by rw [hs]; exact h.latch
  srsr := by rw [hs]; exact h.srsr
  config1 w := by rw [hs]; exact h.config1 w
  config1Kept w := by rw [hs] at w ⊢; exact h.config1Kept w
  run w := hr (h.run w)

/-- What a device read does to the SIM: nothing, or SRSR is cleared. -/
def ReadSim (s : State) (r : Byte × State) : Prop :=
  ∃ n, r.2 = { s with free := n } ∨ r.2 = { s with sim := { s.sim with srsr := 0x00#8 }, free := n }

theorem State.deviceRead_sim (s : State) (a : Nat) : ReadSim s (s.deviceRead a) := by
  unfold State.deviceRead State.readPart
  repeat' with_reducible apply ite_holds (ReadSim s)
  all_goals first
    | exact ⟨_, .inl rfl⟩
    | exact ⟨_, .inr rfl⟩

/-- What the device agents do is such an effect. -/
theorem Effect.agents {s t : State} (h : AgentStep s t) : Effect s t := by
  obtain ⟨⟨_, _, _, _, _, _, _, _, e⟩, hr⟩ := h
  refine ⟨?_, ?_, ?_, ?_, hr, ?_, ?_, ?_, ?_, ?_⟩ <;> rw [e]
  · exact id
  · exact fun _ _ => rfl
  · exact .inl rfl
  · exact fun w => ⟨w, rfl⟩
  · exact fun w => ⟨w, rfl⟩
  · exact id

/-- A device read is such an effect. -/
theorem Effect.deviceRead (t : State) (a : Nat) : Effect t (t.deviceRead a).2 := by
  obtain ⟨n, e | e⟩ := t.deviceRead_sim a
  · rw [e]
    exact (Effect.refl t).registers _ rfl rfl rfl rfl id
  · rw [e]
    exact ⟨rfl, rfl, id, fun _ _ => rfl, id, rfl, .inr rfl, fun w => ⟨w, rfl⟩, fun w => ⟨w, rfl⟩, id⟩

/-- A bus read has only such effects. -/
theorem Effect.busRead {s t : State} (h : Effect s t) (a : Word) : Effect s (t.busRead a).2 := by
  refine h.trans ?_
  unfold State.busRead
  split
  · exact (Effect.agents t.agentsAct_step).trans (Effect.deviceRead _ _)
  all_goals exact Effect.refl t

/-- What a device write does to the SIM. -/
def WriteSim (s t : State) : Prop :=
  (s.sim.resetReq &&& 0x05#8 = 0x00#8 → t.sim.resetReq &&& 0x05#8 = 0x00#8) ∧ t.sim.intLatch = s.sim.intLatch ∧ t.sim.srsr = s.sim.srsr ∧
    (s.sim.config1Written = true → t.sim.config1Written = true ∧ t.sim.config1 = s.sim.config1) ∧
    (t.sim.config1Written = false → s.sim.config1Written = false ∧ t.sim.config1 = s.sim.config1)

theorem WriteSim.same {s t : State} (h : t.sim = s.sim) : WriteSim s t := by
  unfold WriteSim
  rw [h]
  exact ⟨id, rfl, rfl, fun w => ⟨w, rfl⟩, fun w => ⟨w, rfl⟩⟩

theorem State.deviceWrite_sim (s : State) (a : Nat) (v : Byte) : WriteSim s (s.deviceWrite a v) := by
  unfold State.deviceWrite
  cases hw : s.sim.config1Written
  all_goals
    simp only [if_true, Bool.false_eq_true, if_false]
    repeat' with_reducible apply ite_holds (WriteSim s)
    all_goals first
      | exact WriteSim.same rfl
      | exact ⟨id, rfl, rfl, fun w => ⟨w, rfl⟩, fun w => ⟨w, rfl⟩⟩
      | exact ⟨id, rfl, rfl, fun w => absurd (hw.symm.trans w) (by decide), fun w => by cases w⟩

/-- A write that touches one byte of memory, no FLASH and no ROM, is such an effect. -/
theorem Effect.ofWrite {s t : State} (hs : WriteSim s t) (hc : t.cfg = s.cfg) (hm : t.mode = s.mode) (hr : t.run = s.run)
    (hw : Memory.wf s.mem = true → Memory.wf t.mem = true) (hk : ∀ a, s.nonVolatileAt a → t.byteAt a = s.byteAt a) :
    Effect s t :=
  ⟨hc, hm, hw, hk, hs.1, hs.2.1, .inl hs.2.2.1, hs.2.2.2.1, hs.2.2.2.2, fun w => hr.trans w⟩

/-- A device write is such an effect. -/
theorem Effect.deviceWrite (t : State) {a : Nat} (v : Byte) (ha : region t.cfg a = .device) :
    Effect t (t.deviceWrite a v) := by
  have hl : a < 0x10000 := by
    rcases (region_device_iff _ _).1 ha with h | h <;> omega
  have hs := t.deviceWrite_sim a v
  obtain ⟨sim, brk, ports, latch, tim, mem, e, hm⟩ := t.deviceWrite_frame a v
  refine Effect.ofWrite hs (by rw [e]) (by rw [e]) (by rw [e]) (fun w => ?_) fun b hb => ?_
  · rw [e]
    rcases hm with hm | hm
    · rw [hm]; exact w
    · rw [hm]; exact Memory.wf_write _ _ w hl
  · unfold State.byteAt
    rw [e]
    rcases hm with hm | hm
    · rw [hm]
    · rw [hm]
      refine Memory.read_write_other _ _ fun hc => ?_
      rw [← hc] at ha
      rcases hb with hb | hb <;> rw [ha] at hb <;> cases hb

/-- Servicing the COP is such an effect. -/
theorem Effect.serviceCop (t : State) : Effect t t.serviceCop :=
  ⟨rfl, rfl, id, fun _ _ => rfl, id, rfl, .inl rfl, fun w => ⟨w, rfl⟩, fun w => ⟨w, rfl⟩, id⟩

/-- Storing to RAM is such an effect, whatever the records of stored bytes become. -/
theorem Effect.ramWrite (t : State) {a : Word} (v : Byte) (l l' : List Word) (ha : t.ramAt a) :
    Effect t (((t.setMem (t.mem.write a.toNat v)).setJustStored l).setWritten l') := by
  refine Effect.ofWrite (WriteSim.same rfl) rfl rfl rfl (fun w => Memory.wf_write _ _ w a.isLt) fun b hb => ?_
  refine Memory.read_write_other _ _ fun hc => ?_
  have e : b = a := BitVec.eq_of_toNat_eq hc
  subst e
  unfold State.ramAt at ha
  rcases hb with hb | hb <;> rw [ha] at hb <;> cases hb

/-- A bus write has only such effects. -/
theorem Effect.busWrite {s t : State} (h : Effect s t) (a : Word) (v : Byte) : Effect s (t.busWrite a v) := by
  refine h.trans ?_
  unfold State.busWrite
  split
  · have hc : t.agentsAct.cfg = t.cfg := (Effect.agents t.agentsAct_step).cfg
    exact (Effect.agents t.agentsAct_step).trans (Effect.deviceWrite _ v (by rw [hc]; assumption))
  · exact Effect.ramWrite t v _ _ ‹_›
  · exact ite_holds (Effect t) (Effect.serviceCop t) (Effect.refl t)
  all_goals exact Effect.refl t

theorem Operand.value_effect' (o : Operand) (s : State) : Effect s (o.value s).2 := by
  cases o with
  | imm ii => exact Effect.refl s
  | mem m => exact (Effect.refl s).busRead _

theorem Operand16.value_effect' (o : Operand16) (s : State) : Effect s (o.value s).2 := by
  cases o with
  | imm jjkk => exact Effect.refl s
  | dir dd => exact ((Effect.refl s).busRead _).busRead _

/-- A register update on top of an effect. -/
theorem Effect.regs {s t u : State} (h : Effect s t) (hc : u.cfg = t.cfg) (hm : u.mode = t.mode)
    (hs : u.sim = t.sim) (hd : u.mem = t.mem) (hr : u.run = t.run) : Effect s u :=
  h.registers u hc hm hs hd fun w => hr.trans w

/-- An effect on top of a register update on top of an effect. -/
theorem Effect.across {s t u w : State} (h : Effect s t) (e : Effect u w) (hc : u.cfg = t.cfg) (hm : u.mode = t.mode)
    (hs : u.sim = t.sim) (hd : u.mem = t.mem) (hr : u.run = t.run) : Effect s w :=
  (h.regs hc hm hs hd hr).trans e

/-- A read, as an effect that keeps registers and flags. -/
theorem State.withRead_effect {s t : State} {a : Word} {k : Byte → State → Out} (h : s.withRead a k = .next t) :
    ∃ v u, Effect s u ∧ u.ccr = s.ccr ∧ k v u = .next t := by
  obtain ⟨_, h⟩ := State.withRead_next h
  exact ⟨_, _, (Effect.refl s).busRead a, s.busRead_ccr a, h⟩

/-- A write, as an effect that keeps registers and flags. -/
theorem State.withWrite_effect {s t : State} {a : Word} {v : Byte} {k : State → Out} (h : s.withWrite a v k = .next t) :
    ∃ u, Effect s u ∧ u.ccr = s.ccr ∧ k u = .next t := by
  obtain ⟨_, h⟩ := State.withWrite_next h
  exact ⟨_, (Effect.refl s).busWrite a v, s.busWrite_ccr a v, h⟩

/-- A two-byte read, as an effect. -/
theorem State.withRead16_effect {s t : State} {a : Word} {k : Word → State → Out} (h : s.withRead16 a k = .next t) :
    ∃ v u, Effect s u ∧ u.ccr = s.ccr ∧ k v u = .next t := by
  obtain ⟨_, u, e, c, h⟩ := State.withRead_effect h
  obtain ⟨_, w, e', c', h⟩ := State.withRead_effect h
  exact ⟨_, w, e.trans e', c'.trans c, h⟩

/-- A push, as an effect. -/
theorem State.withPush_effect {s t : State} {v : Byte} {k : State → Out} (h : s.withPush v k = .next t) :
    ∃ u, Effect s u ∧ u.ccr = s.ccr ∧ k u = .next t := by
  obtain ⟨u, e, c, h⟩ := State.withWrite_effect h
  exact ⟨u.setSp (u.sp - 1), e.regs rfl rfl rfl rfl rfl, c, h⟩

/-- A pull, as an effect. -/
theorem State.withPull_effect {s t : State} {k : Byte → State → Out} (h : s.withPull k = .next t) :
    ∃ v u, Effect s u ∧ k v u = .next t := by
  obtain ⟨v, u, e, _, h⟩ := State.withRead_effect h
  exact ⟨v, u, (Effect.refl s).across e rfl rfl rfl rfl rfl, h⟩

/-- A push of the return address, as an effect. -/
theorem State.withPushPc_effect {s t : State} {k : State → Out} (h : s.withPushPc k = .next t) :
    ∃ u, Effect s u ∧ u.ccr = s.ccr ∧ k u = .next t := by
  obtain ⟨_, e, c, h⟩ := State.withPush_effect h
  obtain ⟨u, e', c', h⟩ := State.withPush_effect h
  exact ⟨u, e.trans e', c'.trans c, h⟩

/-- A pull of the return address, as an effect. -/
theorem State.withPullPc_effect {s t : State} {k : State → Out} (h : s.withPullPc k = .next t) :
    ∃ u, Effect s u ∧ k u = .next t := by
  obtain ⟨hi, _, e, h⟩ := State.withPull_effect h
  obtain ⟨lo, u, e', h⟩ := State.withPull_effect h
  exact ⟨u.setPc (joinBytes hi lo), (e.trans e').regs rfl rfl rfl rfl rfl, h⟩

/-- Everything an exception entry followed by `k` can do if it answers a next state: five pushes, I, PC and the run state. -/
theorem State.withException_next {s t : State} {vector : Word} {k : State → Out}
    (h : s.withException vector k = .next t) :
    ∃ u v, Effect s u ∧ u.ccr = { s.ccr with i := true } ∧
      k (((u.setPc v).setRun .running).setIrqHold false) = .next t := by
  obtain ⟨s1, e1, c1, h⟩ := State.withPushPc_effect h
  obtain ⟨s2, e2, c2, h⟩ := State.withPush_effect h
  obtain ⟨s3, e3, c3, h⟩ := State.withPush_effect h
  obtain ⟨s4, e4, c4, h⟩ := State.withPush_effect h
  obtain ⟨v, u, e5, c5, h⟩ := State.withRead16_effect h
  refine ⟨u, v, (((e1.trans e2).trans e3).trans e4).across e5 rfl rfl rfl rfl rfl, ?_, h⟩
  rw [c5, State.setCcr_ccr, c4, c3, c2, c1]

/-- Everything a return from an exception followed by `k` can do if it answers a next state. -/
theorem State.withReturn_next {s t : State} {k : State → Out} (h : s.withReturn k = .next t) :
    ∃ u, Effect s u ∧
      k (u.setBrk { u.brk with phase := if u.brk.phase = .serving then .returned else u.brk.phase }) = .next t := by
  obtain ⟨_, s1, e1, h⟩ := State.withPull_effect h
  obtain ⟨_, s2, e2, h⟩ := State.withPull_effect h
  obtain ⟨_, s3, e3, h⟩ := State.withPull_effect h
  obtain ⟨s4, e4, h⟩ := State.withPullPc_effect h
  exact ⟨s4, ((e1.across e2 rfl rfl rfl rfl rfl).across e3 rfl rfl rfl rfl rfl).across e4 rfl rfl rfl rfl rfl, h⟩

/-- What an instruction may do: touch memory and registers; reset the chip after its bytes are fetched; or WAIT and STOP. -/
def ExecEffect (s t : State) : Prop :=
  Effect s t ∨ (∃ q, Effect s q ∧ t = q.resetSequence ResetCause.ilop.bit) ∨
    t = (s.setCcr { s.ccr with i := false }).setRun .waiting ∨
    (s.sim.stopEnabled = true ∧ t = (s.setCcr { s.ccr with i := false }).setRun .stopped)

/-- An operand fetch, as an effect. -/
theorem State.withOperand_effect {s t : State} {o : Operand} {k : Byte → State → Out} (h : s.withOperand o k = .next t) :
    ∃ m u, Effect s u ∧ k m u = .next t := by
  cases o with
  | imm ii => exact ⟨ii, s, Effect.refl s, h⟩
  | mem a =>
    obtain ⟨m, u, e, _, h⟩ := State.withRead_effect h
    exact ⟨m, u, e, h⟩

/-- A 16-bit operand fetch, as an effect. -/
theorem State.withOperand16_effect {s t : State} {o : Operand16} {k : Word → State → Out}
    (h : s.withOperand16 o k = .next t) : ∃ m u, Effect s u ∧ k m u = .next t := by
  cases o with
  | imm jjkk => exact ⟨jjkk, s, Effect.refl s, h⟩
  | dir dd =>
    obtain ⟨m, u, e, _, h⟩ := State.withRead16_effect h
    exact ⟨m, u, e, h⟩

theorem loadA_effect {o : Operand} {s t : State} (h : loadA o s = .next t) : Effect s t := by
  obtain ⟨_, _, e, h⟩ := State.withOperand_effect h
  cases h
  exact e.regs rfl rfl rfl rfl rfl

theorem loadX_effect {o : Operand} {s t : State} (h : loadX o s = .next t) : Effect s t := by
  obtain ⟨_, _, e, h⟩ := State.withOperand_effect h
  cases h
  exact e.regs rfl rfl rfl rfl rfl

theorem loadHX_effect {o : Operand16} {s t : State} (h : loadHX o s = .next t) : Effect s t := by
  obtain ⟨_, _, e, h⟩ := State.withOperand16_effect h
  cases h
  exact e.regs rfl rfl rfl rfl rfl

theorem storeReg_effect {m : AddrMode} {v : Byte} {s t : State} (h : storeReg m v s = .next t) : Effect s t := by
  obtain ⟨_, e, _, h⟩ := State.withWrite_effect h
  cases h
  exact e.regs rfl rfl rfl rfl rfl

theorem storeHX_effect {dd : Byte} {s t : State} (h : storeHX dd s = .next t) : Effect s t := by
  unfold storeHX State.withWrite16 at h
  obtain ⟨_, e, _, h⟩ := State.withWrite_effect h
  obtain ⟨_, e', _, h⟩ := State.withWrite_effect h
  cases h
  exact (e.trans e').regs rfl rfl rfl rfl rfl

theorem accumulate_effect {f : Byte → Byte → Flags → Byte × Flags} {o : Operand} {s t : State}
    (h : accumulate f o s = .next t) : Effect s t := by
  obtain ⟨_, _, e, h⟩ := State.withOperand_effect h
  cases h
  exact e.regs rfl rfl rfl rfl rfl

theorem examine_effect {reg : State → Byte} {f : Byte → Byte → Flags → Byte × Flags} {o : Operand} {s t : State}
    (h : examine reg f o s = .next t) : Effect s t := by
  obtain ⟨_, _, e, h⟩ := State.withOperand_effect h
  cases h
  exact e.regs rfl rfl rfl rfl rfl

theorem compareHX_effect {o : Operand16} {s t : State}
    (h : compareHX o s = .next t) : Effect s t := by
  obtain ⟨_, _, e, h⟩ := State.withOperand16_effect h
  cases h
  exact e.regs rfl rfl rfl rfl rfl

theorem modifyMem_effect {f : Byte → Flags → Byte × Flags} {m : AddrMode} {s t : State} (h : modifyMem f m s = .next t) :
    Effect s t := by
  obtain ⟨_, _, e, _, h⟩ := State.withRead_effect h
  obtain ⟨_, e', _, h⟩ := State.withWrite_effect h
  cases h
  exact (e.trans e').regs rfl rfl rfl rfl rfl

theorem testMem_effect {m : AddrMode} {s t : State} (h : testMem m s = .next t) : Effect s t := by
  obtain ⟨_, _, e, _, h⟩ := State.withRead_effect h
  cases h
  exact e.regs rfl rfl rfl rfl rfl

theorem clearMem_effect {m : AddrMode} {s t : State} (h : clearMem m s = .next t) : Effect s t := by
  obtain ⟨_, e, _, h⟩ := State.withWrite_effect h
  cases h
  exact e.regs rfl rfl rfl rfl rfl

theorem modifyBit_effect {f : Byte → Byte} {dd : Byte} {s t : State} (h : modifyBit f dd s = .next t) : Effect s t := by
  obtain ⟨_, _, e, _, h⟩ := State.withRead_effect h
  obtain ⟨_, e', _, h⟩ := State.withWrite_effect h
  cases h
  exact e.trans e'

theorem branchOnBit_effect {want : Bool} {n : BitVec 3} {dd rr : Byte} {s t : State}
    (h : branchOnBit want n dd rr s = .next t) : Effect s t := by
  obtain ⟨_, _, e, _, h⟩ := State.withRead_effect h
  cases h
  exact e.regs rfl rfl rfl rfl rfl

theorem compareBranch_effect {m : AddrMode} {rr : Byte} {s t : State} (h : compareBranch m rr s = .next t) :
    Effect s t := by
  obtain ⟨_, _, e, _, h⟩ := State.withRead_effect h
  cases h
  exact e.regs rfl rfl rfl rfl rfl

theorem compareBranchInc_effect {m : AddrMode} {rr : Byte} {s t : State} (h : compareBranchInc m rr s = .next t) :
    Effect s t := by
  obtain ⟨_, _, e, _, h⟩ := State.withRead_effect h
  cases h
  exact e.regs rfl rfl rfl rfl rfl

theorem decrementBranch_effect {m : AddrMode} {rr : Byte} {s t : State} (h : decrementBranch m rr s = .next t) :
    Effect s t := by
  obtain ⟨_, _, e, _, h⟩ := State.withRead_effect h
  obtain ⟨_, e', _, h⟩ := State.withWrite_effect h
  cases h
  exact (e.trans e').regs rfl rfl rfl rfl rfl

theorem moveTo_effect {a : Word} {v : Byte} {s t : State} (h : moveTo a v s = .next t) : Effect s t := by
  obtain ⟨_, e, _, h⟩ := State.withWrite_effect h
  cases h
  exact e.regs rfl rfl rfl rfl rfl

theorem call_effect {m : AddrMode} {s t : State} (h : call m s = .next t) : Effect s t := by
  obtain ⟨_, e, _, h⟩ := State.withPushPc_effect h
  cases h
  exact e.regs rfl rfl rfl rfl rfl

/-- An instruction that only changes registers and flags. -/
theorem registers_effect {s t u : State} (h : Host.Outcome.next u = (.next t : Out)) (hc : u.cfg = s.cfg) (hm : u.mode = s.mode)
    (hs : u.sim = s.sim) (hd : u.mem = s.mem) (hr : u.run = s.run) : Effect s t := by
  cases h
  exact (Effect.refl s).regs hc hm hs hd hr

end Sys2Proof.Machine
end

