-- ==== Sys2Proof/Laws/Environment.lean ====
section
/-! SUPPORT. Everything the environment can do at a boundary, said once: `EnvEffect`. -/

namespace Sys2Proof.Machine

/-- What the environment leaves: an effect that changes no CPU register and no run state (R64). -/
structure EnvEffect (s t : State) : Prop where
  effect : Effect s t
  a : t.a = s.a
  h : t.h = s.h
  x : t.x = s.x
  sp : t.sp = s.sp
  pc : t.pc = s.pc
  ccr : t.ccr = s.ccr
  run : t.run = s.run
  irqHold : t.irqHold = s.irqHold

theorem EnvEffect.refl (s : State) : EnvEffect s s := ⟨Effect.refl s, rfl, rfl, rfl, rfl, rfl, rfl, rfl, rfl⟩

theorem EnvEffect.trans {s t u : State} (h : EnvEffect s t) (h' : EnvEffect t u) : EnvEffect s u :=
  ⟨h.effect.trans h'.effect, h'.a.trans h.a, h'.h.trans h.h, h'.x.trans h.x, h'.sp.trans h.sp, h'.pc.trans h.pc,
    h'.ccr.trans h.ccr, h'.run.trans h.run, h'.irqHold.trans h.irqHold⟩

theorem EnvEffect.agents {s t : State} (h : AgentStep s t) : EnvEffect s t := by
  have e := Effect.agents h
  obtain ⟨⟨_, _, _, _, _, _, _, _, rfl⟩, _⟩ := h
  exact ⟨e, rfl, rfl, rfl, rfl, rfl, rfl, rfl, rfl⟩

theorem EnvEffect.setLink (s : State) (l : HostLink) : EnvEffect s (s.setLink l) :=
  ⟨(Effect.refl s).registers _ rfl rfl rfl rfl id, rfl, rfl, rfl, rfl, rfl, rfl, rfl, rfl⟩

/-- Everything the host can do: a command comes to wait. -/
theorem State.hostSends_effect (s : State) (c : HostCommand) : EnvEffect s (s.hostSends c) := by
  unfold State.hostSends
  exact ite_holds (EnvEffect s) (EnvEffect.setLink _ _) (EnvEffect.refl s)

theorem State.deliver_pins (s : State) (pta : BitVec 6) (ptb : Byte) (v : Bool) :
    s.deliver (.pins pta ptb v) = (s.pinsChange pta ptb v).requestForced := rfl

theorem State.deliver_supply (s : State) (low : Bool) :
    s.deliver (.supply low) = (s.requestForced.setPins { s.pins with vddLow := low }).requestForced := rfl

/-- Everything one event at a boundary can do. -/
theorem State.deliver_effect (s : State) (e : EnvEvent) : EnvEffect s (s.deliver e) := by
  have h : s.deliver e = s.agentActs e ∨ ∃ c, s.deliver e = s.hostSends c := by
    cases e <;> first | exact .inr ⟨_, rfl⟩ | exact .inl rfl
  rcases h with h | ⟨c, h⟩ <;> rw [h]
  · exact EnvEffect.agents (s.agentActs_step e)
  · exact s.hostSends_effect c

/-- Everything a batch can do. -/
theorem State.batch_effect (s : State) (l : List EnvEvent) : EnvEffect s (l.foldl State.deliver s) := by
  induction l generalizing s with
  | nil => exact EnvEffect.refl s
  | cons e l ih => exact (s.deliver_effect e).trans (ih _)

/-- Everything the environment can do at a boundary. -/
theorem State.takeInputs_effect (s : State) : EnvEffect s s.takeInputs := by
  unfold State.takeInputs
  split
  · exact EnvEffect.refl s
  · exact (s.batch_effect _).trans
      ⟨(Effect.refl _).registers _ rfl rfl rfl rfl id, rfl, rfl, rfl, rfl, rfl, rfl, rfl, rfl⟩

end Sys2Proof.Machine
end

