-- ==== Sys2Proof/Laws/Exceptions.lean ====
section
/-! SUPPORT. What a push to RAM leaves, and what the exception entry and the return do over a stack in RAM. -/

namespace Sys2Proof.Machine

/-- A push to RAM: the byte, one lower SP, and nothing else. -/
theorem State.withPush_ram {s : State} (v : Byte) (k : State → Out) (hw : Memory.wf s.mem = true) (h : s.ramAt s.sp) :
    ∃ w, s.withPush v k = k w ∧ w = { s with mem := w.mem, justStored := w.justStored, written := w.written, sp := s.sp - 1 } ∧
      Memory.wf w.mem = true ∧ w.byteAt s.sp = v ∧ ∀ b, b ≠ s.sp → w.byteAt b = s.byteAt b := by
  refine ⟨(s.busWrite s.sp v).setSp (s.sp - 1), State.withPush_ok (State.canWrite_of_ramAt h), ?_,
    State.busWrite_wf s.sp v hw, State.busWrite_byteAt_ram v hw h, fun b hb => s.busWrite_byteAt_other v hb⟩
  rw [State.busWrite_ram v h]
  rfl

/-- No vector of an exception lies in a frame in RAM. -/
theorem State.vector_outside_frame {s : State} (hf : s.frameInRam) {vector : Word} (hv : 0x100 ≤ vector.toNat)
    (hv' : vector.toNat < 0xFFFF) (n : BitVec 3) (hn : n.toNat < 5) :
    vector ≠ s.sp - n.setWidth 16 ∧ vector + 1 ≠ s.sp - n.setWidth 16 := by
  have h0 := (region_ram_iff _ _).1 hf.1
  have h4 := (region_ram_iff _ _).1 hf.2.2.2.2
  constructor <;> bv_omega

/-- The exception entry over a frame in RAM: the frame of R331, I set after it, PC from the vector, the CPU running. -/
theorem State.withException_ram {s : State} {vector : Word} (k : State → Out) (hw : Memory.wf s.mem = true)
    (hf : s.frameInRam) (hv : s.plainAt vector) (hv' : s.plainAt (vector + 1))
    (ho : 0x100 ≤ vector.toNat) (ho' : vector.toNat < 0xFFFF) :
    ∃ t, s.withException vector k = k t ∧ FrameOf s t s.pc ∧ Memory.wf t.mem = true ∧
      t = { s with
            mem := t.mem, justStored := t.justStored, written := t.written, sp := s.sp - 5, ccr := { s.ccr with i := true },
            pc := joinBytes (s.byteAt vector) (s.byteAt (vector + 1)), run := .running, irqHold := false } := by
  have hn := State.vector_outside_frame hf ho ho'
  obtain ⟨r0, r1, r2, r3, r4⟩ := hf
  obtain ⟨s1, e1, q1, w1, b1, o1⟩ := State.withPush_ram (loByte s.pc) (fun s => s.withPush (hiByte s.pc) fun s =>
    s.withPush s.x fun s => s.withPush s.a fun s => s.withPush s.ccr.toByte fun s =>
    (s.setCcr { s.ccr with i := true }).withRead16 vector fun v s =>
    k (((s.setPc v).setRun .running).setIrqHold false)) hw r0
  have c1 : s1.cfg = s.cfg := by rw [q1]
  have p1 : s1.sp = s.sp - 1 := by rw [q1]
  have pc1 : s1.pc = s.pc := by rw [q1]
  obtain ⟨s2, e2, q2, w2, b2, o2⟩ := State.withPush_ram (s := s1) (hiByte s1.pc) (fun s =>
    s.withPush s.x fun s => s.withPush s.a fun s => s.withPush s.ccr.toByte fun s =>
    (s.setCcr { s.ccr with i := true }).withRead16 vector fun v s =>
    k (((s.setPc v).setRun .running).setIrqHold false)) w1 (by rw [p1]; unfold State.ramAt; rw [c1]; exact r1)
  have c2 : s2.cfg = s.cfg := by rw [q2, c1]
  have p2 : s2.sp = s.sp - 2 := by rw [q2, p1, BitVec.sub_sub]; rfl
  have x2 : s2.x = s.x := by rw [q2, q1]
  obtain ⟨s3, e3, q3, w3, b3, o3⟩ := State.withPush_ram (s := s2) s2.x (fun s =>
    s.withPush s.a fun s => s.withPush s.ccr.toByte fun s =>
    (s.setCcr { s.ccr with i := true }).withRead16 vector fun v s =>
    k (((s.setPc v).setRun .running).setIrqHold false)) w2 (by rw [p2]; unfold State.ramAt; rw [c2]; exact r2)
  have c3 : s3.cfg = s.cfg := by rw [q3, c2]
  have p3 : s3.sp = s.sp - 3 := by rw [q3, p2, BitVec.sub_sub]; rfl
  have a3 : s3.a = s.a := by rw [q3, q2, q1]
  obtain ⟨s4, e4, q4, w4, b4, o4⟩ := State.withPush_ram (s := s3) s3.a (fun s => s.withPush s.ccr.toByte fun s =>
    (s.setCcr { s.ccr with i := true }).withRead16 vector fun v s =>
    k (((s.setPc v).setRun .running).setIrqHold false)) w3 (by rw [p3]; unfold State.ramAt; rw [c3]; exact r3)
  have c4 : s4.cfg = s.cfg := by rw [q4, c3]
  have p4 : s4.sp = s.sp - 4 := by rw [q4, p3, BitVec.sub_sub]; rfl
  have f4 : s4.ccr = s.ccr := by rw [q4, q3, q2, q1]
  obtain ⟨s5, e5, q5, w5, b5, o5⟩ := State.withPush_ram (s := s4) s4.ccr.toByte (fun s =>
    (s.setCcr { s.ccr with i := true }).withRead16 vector fun v s =>
    k (((s.setPc v).setRun .running).setIrqHold false)) w4 (by rw [p4]; unfold State.ramAt; rw [c4]; exact r4)
  have c5 : s5.cfg = s.cfg := by rw [q5, c4]
  have p5 : s5.sp = s.sp - 5 := by rw [q5, p4, BitVec.sub_sub]; rfl
  have f5 : s5.ccr = s.ccr := by rw [q5, f4]
  rw [p1] at b2 o2
  rw [p2] at b3 o3
  rw [p3] at b4 o4
  rw [p4] at b5 o5
  have far : ∀ b, (∀ n : BitVec 3, n.toNat < 5 → b ≠ s.sp - n.setWidth 16) → s5.byteAt b = s.byteAt b := fun b hb => by
    rw [o5 b (hb 4 (by decide)), o4 b (hb 3 (by decide)), o3 b (hb 2 (by decide)), o2 b (hb 1 (by decide)),
      o1 b (by simpa using hb 0 (by decide))]
  have hp : (s5.setCcr { s5.ccr with i := true }).plainAt vector := by
    unfold State.plainAt at hv ⊢; rw [State.setCcr_cfg, c5]; exact hv
  have hp' : (s5.setCcr { s5.ccr with i := true }).plainAt (vector + 1) := by
    unfold State.plainAt at hv' ⊢; rw [State.setCcr_cfg, c5]; exact hv'
  have b5v : s5.byteAt vector = s.byteAt vector := far _ fun n h => (hn n h).1
  have b5w : s5.byteAt (vector + 1) = s.byteAt (vector + 1) := far _ fun n h => (hn n h).2
  refine ⟨(((s5.setCcr { s5.ccr with i := true }).setPc (joinBytes (s5.byteAt vector) (s5.byteAt (vector + 1)))).setRun
    .running).setIrqHold false, ?_, ?_, w5, ?_⟩
  · exact e1.trans (e2.trans (e3.trans (e4.trans (e5.trans (State.withRead16_plain hp hp')))))
  · refine ⟨?_, ?_, ?_, ?_, ?_, p5, ?_⟩
    · show s5.byteAt s.sp = _
      rw [o5 _ (by bv_omega), o4 _ (by bv_omega), o3 _ (by bv_omega), o2 _ (by bv_omega), b1]
    · show s5.byteAt (s.sp - 1) = _
      rw [o5 _ (by bv_omega), o4 _ (by bv_omega), o3 _ (by bv_omega), b2, pc1]
    · show s5.byteAt (s.sp - 2) = _
      rw [o5 _ (by bv_omega), o4 _ (by bv_omega), b3, x2]
    · show s5.byteAt (s.sp - 3) = _
      rw [o5 _ (by bv_omega), b4, a3]
    · show s5.byteAt (s.sp - 4) = _
      rw [b5, f4]
    · intro b h0 h1 h2 h3 h4
      show s5.byteAt b = _
      rw [o5 b h4, o4 b h3, o3 b h2, o2 b h1, o1 b h0]
  · rw [b5v, b5w, f5, q5, q4, q3, q2, q1]
    simp only [State.setCcr, State.setPc, State.setRun, State.setIrqHold]
    congr 1
    rw [← p5, q5, q4, q3, q2, q1]

/-- The return from an exception over five plain bytes. -/
theorem State.withReturn_plain {s : State} (k : State → Out) (hf : s.frameAbove) :
    s.withReturn k = k
      { s with
        ccr := Flags.ofByte (s.byteAt (s.sp + 1)), a := s.byteAt (s.sp + 2), x := s.byteAt (s.sp + 3),
        pc := joinBytes (s.byteAt (s.sp + 4)) (s.byteAt (s.sp + 5)), sp := s.sp + 5,
        brk := { s.brk with phase := if s.brk.phase = .serving then .returned else s.brk.phase } } := by
  obtain ⟨h1, h2, h3, h4, h5⟩ := hf
  have e : ∀ n m : Word, s.sp + n + m = s.sp + (n + m) := fun n m => BitVec.add_assoc _ _ _
  unfold State.withReturn State.withPullPc
  rw [State.withPull_plain h1]
  rw [State.withPull_plain (s := (s.setSp (s.sp + 1)).setCcr (Flags.ofByte (s.byteAt (s.sp + 1))))
    (by rw [State.setCcr_sp, State.setSp_sp, e]; exact h2)]
  rw [State.withPull_plain (by simp only [State.setA_sp, State.setSp_sp, State.setCcr_sp, e]; exact h3)]
  rw [State.withPull_plain (by simp only [State.setX_sp, State.setA_sp, State.setSp_sp, State.setCcr_sp, e]; exact h4)]
  rw [State.withPull_plain (by simp only [State.setX_sp, State.setA_sp, State.setSp_sp, State.setCcr_sp, e]; exact h5)]
  simp only [State.setX_sp, State.setA_sp, State.setSp_sp, State.setCcr_sp, e]
  rfl

end Sys2Proof.Machine
end

