-- ==== Sys2Proof/Laws/ExecEffect.lean ====
section
/-! SUPPORT. What each instruction may do to the machine beyond its registers and flags: a lemma per constructor, and the one
lemma for all. -/

namespace Sys2Proof.Machine

theorem execEffect_brset {n : BitVec 3} {dd : Byte} {rr : Byte} {s t : State} (h : exec (.brset n dd rr) s = .next t) : ExecEffect s t := by
  have h : execBrset n dd rr s = .next t := h
  exact .inl (branchOnBit_effect h)

theorem execEffect_brclr {n : BitVec 3} {dd : Byte} {rr : Byte} {s t : State} (h : exec (.brclr n dd rr) s = .next t) : ExecEffect s t := by
  have h : execBrclr n dd rr s = .next t := h
  exact .inl (branchOnBit_effect h)

theorem execEffect_bset {n : BitVec 3} {dd : Byte} {s t : State} (h : exec (.bset n dd) s = .next t) : ExecEffect s t := by
  have h : modifyBit (fun v => v ||| bitMask n) dd s = .next t := h
  exact .inl (modifyBit_effect h)

theorem execEffect_bclr {n : BitVec 3} {dd : Byte} {s t : State} (h : exec (.bclr n dd) s = .next t) : ExecEffect s t := by
  have h : modifyBit (fun v => v &&& ~~~bitMask n) dd s = .next t := h
  exact .inl (modifyBit_effect h)

theorem execEffect_bra {rr : Byte} {s t : State} (h : exec (.bra rr) s = .next t) : ExecEffect s t := by
  have h : execBra rr s = .next t := h
  exact .inl (registers_effect h rfl rfl rfl rfl rfl)

theorem execEffect_brn {rr : Byte} {s t : State} (h : exec (.brn rr) s = .next t) : ExecEffect s t := by
  have h : execBrn rr s = .next t := h
  exact .inl (registers_effect h rfl rfl rfl rfl rfl)

theorem execEffect_bhi {rr : Byte} {s t : State} (h : exec (.bhi rr) s = .next t) : ExecEffect s t := by
  have h : execBhi rr s = .next t := h
  exact .inl (registers_effect h rfl rfl rfl rfl rfl)

theorem execEffect_bls {rr : Byte} {s t : State} (h : exec (.bls rr) s = .next t) : ExecEffect s t := by
  have h : execBls rr s = .next t := h
  exact .inl (registers_effect h rfl rfl rfl rfl rfl)

theorem execEffect_bcc {rr : Byte} {s t : State} (h : exec (.bcc rr) s = .next t) : ExecEffect s t := by
  have h : execBcc rr s = .next t := h
  exact .inl (registers_effect h rfl rfl rfl rfl rfl)

theorem execEffect_bcs {rr : Byte} {s t : State} (h : exec (.bcs rr) s = .next t) : ExecEffect s t := by
  have h : execBcs rr s = .next t := h
  exact .inl (registers_effect h rfl rfl rfl rfl rfl)

theorem execEffect_bne {rr : Byte} {s t : State} (h : exec (.bne rr) s = .next t) : ExecEffect s t := by
  have h : execBne rr s = .next t := h
  exact .inl (registers_effect h rfl rfl rfl rfl rfl)

theorem execEffect_beq {rr : Byte} {s t : State} (h : exec (.beq rr) s = .next t) : ExecEffect s t := by
  have h : execBeq rr s = .next t := h
  exact .inl (registers_effect h rfl rfl rfl rfl rfl)

theorem execEffect_bhcc {rr : Byte} {s t : State} (h : exec (.bhcc rr) s = .next t) : ExecEffect s t := by
  have h : execBhcc rr s = .next t := h
  exact .inl (registers_effect h rfl rfl rfl rfl rfl)

theorem execEffect_bhcs {rr : Byte} {s t : State} (h : exec (.bhcs rr) s = .next t) : ExecEffect s t := by
  have h : execBhcs rr s = .next t := h
  exact .inl (registers_effect h rfl rfl rfl rfl rfl)

theorem execEffect_bpl {rr : Byte} {s t : State} (h : exec (.bpl rr) s = .next t) : ExecEffect s t := by
  have h : execBpl rr s = .next t := h
  exact .inl (registers_effect h rfl rfl rfl rfl rfl)

theorem execEffect_bmi {rr : Byte} {s t : State} (h : exec (.bmi rr) s = .next t) : ExecEffect s t := by
  have h : execBmi rr s = .next t := h
  exact .inl (registers_effect h rfl rfl rfl rfl rfl)

theorem execEffect_bmc {rr : Byte} {s t : State} (h : exec (.bmc rr) s = .next t) : ExecEffect s t := by
  have h : execBmc rr s = .next t := h
  exact .inl (registers_effect h rfl rfl rfl rfl rfl)

theorem execEffect_bms {rr : Byte} {s t : State} (h : exec (.bms rr) s = .next t) : ExecEffect s t := by
  have h : execBms rr s = .next t := h
  exact .inl (registers_effect h rfl rfl rfl rfl rfl)

theorem execEffect_bil {rr : Byte} {s t : State} (h : exec (.bil rr) s = .next t) : ExecEffect s t := by
  have h : execBil rr s = .next t := h
  exact .inl (registers_effect h rfl rfl rfl rfl rfl)

theorem execEffect_bih {rr : Byte} {s t : State} (h : exec (.bih rr) s = .next t) : ExecEffect s t := by
  have h : execBih rr s = .next t := h
  exact .inl (registers_effect h rfl rfl rfl rfl rfl)

theorem execEffect_negDir {dd : Byte} {s t : State} (h : exec (.negDir dd) s = .next t) : ExecEffect s t := by
  have h : execNegDir dd s = .next t := h
  exact .inl (modifyMem_effect h)

theorem execEffect_cbeqDir {dd : Byte} {rr : Byte} {s t : State} (h : exec (.cbeqDir dd rr) s = .next t) : ExecEffect s t := by
  have h : execCbeqDir dd rr s = .next t := h
  exact .inl (compareBranch_effect h)

theorem execEffect_illegal32 {s t : State} (h : exec .illegal32 s = .next t) : ExecEffect s t := by
  have h : execIllegal32 s = .next t := h
  cases h
  exact .inr (.inl ⟨s, Effect.refl s, rfl⟩)

theorem execEffect_comDir {dd : Byte} {s t : State} (h : exec (.comDir dd) s = .next t) : ExecEffect s t := by
  have h : execComDir dd s = .next t := h
  exact .inl (modifyMem_effect h)

theorem execEffect_lsrDir {dd : Byte} {s t : State} (h : exec (.lsrDir dd) s = .next t) : ExecEffect s t := by
  have h : execLsrDir dd s = .next t := h
  exact .inl (modifyMem_effect h)

theorem execEffect_sthx {dd : Byte} {s t : State} (h : exec (.sthx dd) s = .next t) : ExecEffect s t := by
  have h : execSthx dd s = .next t := h
  exact .inl (storeHX_effect h)

theorem execEffect_rorDir {dd : Byte} {s t : State} (h : exec (.rorDir dd) s = .next t) : ExecEffect s t := by
  have h : execRorDir dd s = .next t := h
  exact .inl (modifyMem_effect h)

theorem execEffect_asrDir {dd : Byte} {s t : State} (h : exec (.asrDir dd) s = .next t) : ExecEffect s t := by
  have h : execAsrDir dd s = .next t := h
  exact .inl (modifyMem_effect h)

theorem execEffect_lslDir {dd : Byte} {s t : State} (h : exec (.lslDir dd) s = .next t) : ExecEffect s t := by
  have h : execLslDir dd s = .next t := h
  exact .inl (modifyMem_effect h)

theorem execEffect_rolDir {dd : Byte} {s t : State} (h : exec (.rolDir dd) s = .next t) : ExecEffect s t := by
  have h : execRolDir dd s = .next t := h
  exact .inl (modifyMem_effect h)

theorem execEffect_decDir {dd : Byte} {s t : State} (h : exec (.decDir dd) s = .next t) : ExecEffect s t := by
  have h : execDecDir dd s = .next t := h
  exact .inl (modifyMem_effect h)

theorem execEffect_dbnzDir {dd : Byte} {rr : Byte} {s t : State} (h : exec (.dbnzDir dd rr) s = .next t) : ExecEffect s t := by
  have h : execDbnzDir dd rr s = .next t := h
  exact .inl (decrementBranch_effect h)

theorem execEffect_incDir {dd : Byte} {s t : State} (h : exec (.incDir dd) s = .next t) : ExecEffect s t := by
  have h : execIncDir dd s = .next t := h
  exact .inl (modifyMem_effect h)

theorem execEffect_tstDir {dd : Byte} {s t : State} (h : exec (.tstDir dd) s = .next t) : ExecEffect s t := by
  have h : execTstDir dd s = .next t := h
  exact .inl (testMem_effect h)

theorem execEffect_illegal3E {s t : State} (h : exec .illegal3E s = .next t) : ExecEffect s t := by
  have h : execIllegal3E s = .next t := h
  cases h
  exact .inr (.inl ⟨s, Effect.refl s, rfl⟩)

theorem execEffect_clrDir {dd : Byte} {s t : State} (h : exec (.clrDir dd) s = .next t) : ExecEffect s t := by
  have h : execClrDir dd s = .next t := h
  exact .inl (clearMem_effect h)

theorem execEffect_nega {s t : State} (h : exec .nega s = .next t) : ExecEffect s t := by
  have h : execNega s = .next t := h
  exact .inl (registers_effect h rfl rfl rfl rfl rfl)

theorem execEffect_cbeqa {ii : Byte} {rr : Byte} {s t : State} (h : exec (.cbeqa ii rr) s = .next t) : ExecEffect s t := by
  have h : execCbeqa ii rr s = .next t := h
  exact .inl (registers_effect h rfl rfl rfl rfl rfl)

theorem execEffect_mul {s t : State} (h : exec .mul s = .next t) : ExecEffect s t := by
  have h : execMul s = .next t := h
  exact .inl (registers_effect h rfl rfl rfl rfl rfl)

theorem execEffect_coma {s t : State} (h : exec .coma s = .next t) : ExecEffect s t := by
  have h : execComa s = .next t := h
  exact .inl (registers_effect h rfl rfl rfl rfl rfl)

theorem execEffect_lsra {s t : State} (h : exec .lsra s = .next t) : ExecEffect s t := by
  have h : execLsra s = .next t := h
  exact .inl (registers_effect h rfl rfl rfl rfl rfl)

theorem execEffect_ldhxImm {jjkk : Word} {s t : State} (h : exec (.ldhxImm jjkk) s = .next t) : ExecEffect s t := by
  have h : execLdhxImm jjkk s = .next t := h
  exact .inl (loadHX_effect h)

theorem execEffect_rora {s t : State} (h : exec .rora s = .next t) : ExecEffect s t := by
  have h : execRora s = .next t := h
  exact .inl (registers_effect h rfl rfl rfl rfl rfl)

theorem execEffect_asra {s t : State} (h : exec .asra s = .next t) : ExecEffect s t := by
  have h : execAsra s = .next t := h
  exact .inl (registers_effect h rfl rfl rfl rfl rfl)

theorem execEffect_lsla {s t : State} (h : exec .lsla s = .next t) : ExecEffect s t := by
  have h : execLsla s = .next t := h
  exact .inl (registers_effect h rfl rfl rfl rfl rfl)

theorem execEffect_rola {s t : State} (h : exec .rola s = .next t) : ExecEffect s t := by
  have h : execRola s = .next t := h
  exact .inl (registers_effect h rfl rfl rfl rfl rfl)

theorem execEffect_deca {s t : State} (h : exec .deca s = .next t) : ExecEffect s t := by
  have h : execDeca s = .next t := h
  exact .inl (registers_effect h rfl rfl rfl rfl rfl)

theorem execEffect_dbnza {rr : Byte} {s t : State} (h : exec (.dbnza rr) s = .next t) : ExecEffect s t := by
  have h : execDbnza rr s = .next t := h
  exact .inl (registers_effect h rfl rfl rfl rfl rfl)

theorem execEffect_inca {s t : State} (h : exec .inca s = .next t) : ExecEffect s t := by
  have h : execInca s = .next t := h
  exact .inl (registers_effect h rfl rfl rfl rfl rfl)

theorem execEffect_tsta {s t : State} (h : exec .tsta s = .next t) : ExecEffect s t := by
  have h : execTsta s = .next t := h
  exact .inl (registers_effect h rfl rfl rfl rfl rfl)

theorem execEffect_movDd {ss : Byte} {dd : Byte} {s t : State} (h : exec (.movDd ss dd) s = .next t) : ExecEffect s t := by
  have h : execMovDd ss dd s = .next t := h
  obtain ⟨_, _, e, _, h⟩ := State.withRead_effect h
  obtain ⟨_, e', _, h⟩ := State.withWrite_effect h
  cases h
  exact .inl ((e.trans e').regs rfl rfl rfl rfl rfl)

theorem execEffect_clra {s t : State} (h : exec .clra s = .next t) : ExecEffect s t := by
  have h : execClra s = .next t := h
  exact .inl (registers_effect h rfl rfl rfl rfl rfl)

theorem execEffect_negx {s t : State} (h : exec .negx s = .next t) : ExecEffect s t := by
  have h : execNegx s = .next t := h
  exact .inl (registers_effect h rfl rfl rfl rfl rfl)

theorem execEffect_cbeqx {ii : Byte} {rr : Byte} {s t : State} (h : exec (.cbeqx ii rr) s = .next t) : ExecEffect s t := by
  have h : execCbeqx ii rr s = .next t := h
  exact .inl (registers_effect h rfl rfl rfl rfl rfl)

theorem execEffect_div {s t : State} (h : exec .div s = .next t) : ExecEffect s t := by
  have h : Host.Outcome.next s.divided = (.next t : Out) := h
  cases h
  unfold State.divided
  dsimp only
  split <;> exact .inl ((Effect.refl s).regs rfl rfl rfl rfl rfl)

theorem execEffect_comx {s t : State} (h : exec .comx s = .next t) : ExecEffect s t := by
  have h : execComx s = .next t := h
  exact .inl (registers_effect h rfl rfl rfl rfl rfl)

theorem execEffect_lsrx {s t : State} (h : exec .lsrx s = .next t) : ExecEffect s t := by
  have h : execLsrx s = .next t := h
  exact .inl (registers_effect h rfl rfl rfl rfl rfl)

theorem execEffect_ldhxDir {dd : Byte} {s t : State} (h : exec (.ldhxDir dd) s = .next t) : ExecEffect s t := by
  have h : execLdhxDir dd s = .next t := h
  exact .inl (loadHX_effect h)

theorem execEffect_rorx {s t : State} (h : exec .rorx s = .next t) : ExecEffect s t := by
  have h : execRorx s = .next t := h
  exact .inl (registers_effect h rfl rfl rfl rfl rfl)

theorem execEffect_asrx {s t : State} (h : exec .asrx s = .next t) : ExecEffect s t := by
  have h : execAsrx s = .next t := h
  exact .inl (registers_effect h rfl rfl rfl rfl rfl)

theorem execEffect_lslx {s t : State} (h : exec .lslx s = .next t) : ExecEffect s t := by
  have h : execLslx s = .next t := h
  exact .inl (registers_effect h rfl rfl rfl rfl rfl)

theorem execEffect_rolx {s t : State} (h : exec .rolx s = .next t) : ExecEffect s t := by
  have h : execRolx s = .next t := h
  exact .inl (registers_effect h rfl rfl rfl rfl rfl)

theorem execEffect_decx {s t : State} (h : exec .decx s = .next t) : ExecEffect s t := by
  have h : execDecx s = .next t := h
  exact .inl (registers_effect h rfl rfl rfl rfl rfl)

theorem execEffect_dbnzx {rr : Byte} {s t : State} (h : exec (.dbnzx rr) s = .next t) : ExecEffect s t := by
  have h : execDbnzx rr s = .next t := h
  exact .inl (registers_effect h rfl rfl rfl rfl rfl)

theorem execEffect_incx {s t : State} (h : exec .incx s = .next t) : ExecEffect s t := by
  have h : execIncx s = .next t := h
  exact .inl (registers_effect h rfl rfl rfl rfl rfl)

theorem execEffect_tstx {s t : State} (h : exec .tstx s = .next t) : ExecEffect s t := by
  have h : execTstx s = .next t := h
  exact .inl (registers_effect h rfl rfl rfl rfl rfl)

theorem execEffect_movDixPlus {ss : Byte} {s t : State} (h : exec (.movDixPlus ss) s = .next t) : ExecEffect s t := by
  have h : execMovDixPlus ss s = .next t := h
  obtain ⟨_, _, e, _, h⟩ := State.withRead_effect h
  obtain ⟨_, e', _, h⟩ := State.withWrite_effect h
  cases h
  exact .inl ((e.trans e').regs rfl rfl rfl rfl rfl)

theorem execEffect_clrx {s t : State} (h : exec .clrx s = .next t) : ExecEffect s t := by
  have h : execClrx s = .next t := h
  exact .inl (registers_effect h rfl rfl rfl rfl rfl)

theorem execEffect_negIx1 {ff : Byte} {s t : State} (h : exec (.negIx1 ff) s = .next t) : ExecEffect s t := by
  have h : execNegIx1 ff s = .next t := h
  exact .inl (modifyMem_effect h)

theorem execEffect_cbeqIx1Plus {ff : Byte} {rr : Byte} {s t : State} (h : exec (.cbeqIx1Plus ff rr) s = .next t) : ExecEffect s t := by
  have h : execCbeqIx1Plus ff rr s = .next t := h
  exact .inl (compareBranchInc_effect h)

theorem execEffect_nsa {s t : State} (h : exec .nsa s = .next t) : ExecEffect s t := by
  have h : execNsa s = .next t := h
  exact .inl (registers_effect h rfl rfl rfl rfl rfl)

theorem execEffect_comIx1 {ff : Byte} {s t : State} (h : exec (.comIx1 ff) s = .next t) : ExecEffect s t := by
  have h : execComIx1 ff s = .next t := h
  exact .inl (modifyMem_effect h)

theorem execEffect_lsrIx1 {ff : Byte} {s t : State} (h : exec (.lsrIx1 ff) s = .next t) : ExecEffect s t := by
  have h : execLsrIx1 ff s = .next t := h
  exact .inl (modifyMem_effect h)

theorem execEffect_cphxImm {jjkk : Word} {s t : State} (h : exec (.cphxImm jjkk) s = .next t) : ExecEffect s t := by
  have h : execCphxImm jjkk s = .next t := h
  exact .inl (compareHX_effect h)

theorem execEffect_rorIx1 {ff : Byte} {s t : State} (h : exec (.rorIx1 ff) s = .next t) : ExecEffect s t := by
  have h : execRorIx1 ff s = .next t := h
  exact .inl (modifyMem_effect h)

theorem execEffect_asrIx1 {ff : Byte} {s t : State} (h : exec (.asrIx1 ff) s = .next t) : ExecEffect s t := by
  have h : execAsrIx1 ff s = .next t := h
  exact .inl (modifyMem_effect h)

theorem execEffect_lslIx1 {ff : Byte} {s t : State} (h : exec (.lslIx1 ff) s = .next t) : ExecEffect s t := by
  have h : execLslIx1 ff s = .next t := h
  exact .inl (modifyMem_effect h)

theorem execEffect_rolIx1 {ff : Byte} {s t : State} (h : exec (.rolIx1 ff) s = .next t) : ExecEffect s t := by
  have h : execRolIx1 ff s = .next t := h
  exact .inl (modifyMem_effect h)

theorem execEffect_decIx1 {ff : Byte} {s t : State} (h : exec (.decIx1 ff) s = .next t) : ExecEffect s t := by
  have h : execDecIx1 ff s = .next t := h
  exact .inl (modifyMem_effect h)

theorem execEffect_dbnzIx1 {ff : Byte} {rr : Byte} {s t : State} (h : exec (.dbnzIx1 ff rr) s = .next t) : ExecEffect s t := by
  have h : execDbnzIx1 ff rr s = .next t := h
  exact .inl (decrementBranch_effect h)

theorem execEffect_incIx1 {ff : Byte} {s t : State} (h : exec (.incIx1 ff) s = .next t) : ExecEffect s t := by
  have h : execIncIx1 ff s = .next t := h
  exact .inl (modifyMem_effect h)

theorem execEffect_tstIx1 {ff : Byte} {s t : State} (h : exec (.tstIx1 ff) s = .next t) : ExecEffect s t := by
  have h : execTstIx1 ff s = .next t := h
  exact .inl (testMem_effect h)

theorem execEffect_movImd {ii : Byte} {dd : Byte} {s t : State} (h : exec (.movImd ii dd) s = .next t) : ExecEffect s t := by
  have h : execMovImd ii dd s = .next t := h
  exact .inl (moveTo_effect h)

theorem execEffect_clrIx1 {ff : Byte} {s t : State} (h : exec (.clrIx1 ff) s = .next t) : ExecEffect s t := by
  have h : execClrIx1 ff s = .next t := h
  exact .inl (clearMem_effect h)

theorem execEffect_negIx {s t : State} (h : exec .negIx s = .next t) : ExecEffect s t := by
  have h : execNegIx s = .next t := h
  exact .inl (modifyMem_effect h)

theorem execEffect_cbeqIxPlus {rr : Byte} {s t : State} (h : exec (.cbeqIxPlus rr) s = .next t) : ExecEffect s t := by
  have h : execCbeqIxPlus rr s = .next t := h
  exact .inl (compareBranchInc_effect h)

theorem execEffect_daa {s t : State} (h : exec .daa s = .next t) : ExecEffect s t := by
  have h : Host.Outcome.next s.decimalAdjusted = (.next t : Out) := h
  cases h
  unfold State.decimalAdjusted
  dsimp only
  split <;> exact .inl ((Effect.refl s).regs rfl rfl rfl rfl rfl)

theorem execEffect_comIx {s t : State} (h : exec .comIx s = .next t) : ExecEffect s t := by
  have h : execComIx s = .next t := h
  exact .inl (modifyMem_effect h)

theorem execEffect_lsrIx {s t : State} (h : exec .lsrIx s = .next t) : ExecEffect s t := by
  have h : execLsrIx s = .next t := h
  exact .inl (modifyMem_effect h)

theorem execEffect_cphxDir {dd : Byte} {s t : State} (h : exec (.cphxDir dd) s = .next t) : ExecEffect s t := by
  have h : execCphxDir dd s = .next t := h
  exact .inl (compareHX_effect h)

theorem execEffect_rorIx {s t : State} (h : exec .rorIx s = .next t) : ExecEffect s t := by
  have h : execRorIx s = .next t := h
  exact .inl (modifyMem_effect h)

theorem execEffect_asrIx {s t : State} (h : exec .asrIx s = .next t) : ExecEffect s t := by
  have h : execAsrIx s = .next t := h
  exact .inl (modifyMem_effect h)

theorem execEffect_lslIx {s t : State} (h : exec .lslIx s = .next t) : ExecEffect s t := by
  have h : execLslIx s = .next t := h
  exact .inl (modifyMem_effect h)

theorem execEffect_rolIx {s t : State} (h : exec .rolIx s = .next t) : ExecEffect s t := by
  have h : execRolIx s = .next t := h
  exact .inl (modifyMem_effect h)

theorem execEffect_decIx {s t : State} (h : exec .decIx s = .next t) : ExecEffect s t := by
  have h : execDecIx s = .next t := h
  exact .inl (modifyMem_effect h)

theorem execEffect_dbnzIx {rr : Byte} {s t : State} (h : exec (.dbnzIx rr) s = .next t) : ExecEffect s t := by
  have h : execDbnzIx rr s = .next t := h
  exact .inl (decrementBranch_effect h)

theorem execEffect_incIx {s t : State} (h : exec .incIx s = .next t) : ExecEffect s t := by
  have h : execIncIx s = .next t := h
  exact .inl (modifyMem_effect h)

theorem execEffect_tstIx {s t : State} (h : exec .tstIx s = .next t) : ExecEffect s t := by
  have h : execTstIx s = .next t := h
  exact .inl (testMem_effect h)

theorem execEffect_movIxPlusD {dd : Byte} {s t : State} (h : exec (.movIxPlusD dd) s = .next t) : ExecEffect s t := by
  have h : execMovIxPlusD dd s = .next t := h
  obtain ⟨_, _, e, _, h⟩ := State.withRead_effect h
  obtain ⟨_, e', _, h⟩ := State.withWrite_effect h
  cases h
  exact .inl ((e.trans e').regs rfl rfl rfl rfl rfl)

theorem execEffect_clrIx {s t : State} (h : exec .clrIx s = .next t) : ExecEffect s t := by
  have h : execClrIx s = .next t := h
  exact .inl (clearMem_effect h)

theorem execEffect_rti {s t : State} (h : exec .rti s = .next t) : ExecEffect s t := by
  have h : execRti s = .next t := h
  obtain ⟨_, e, h⟩ := State.withReturn_next h
  cases h
  exact .inl (e.regs rfl rfl rfl rfl rfl)

theorem execEffect_rts {s t : State} (h : exec .rts s = .next t) : ExecEffect s t := by
  have h : execRts s = .next t := h
  obtain ⟨_, e, h⟩ := State.withPullPc_effect h
  cases h
  exact .inl e

theorem execEffect_illegal82 {s t : State} (h : exec .illegal82 s = .next t) : ExecEffect s t := by
  have h : execIllegal82 s = .next t := h
  cases h
  exact .inr (.inl ⟨s, Effect.refl s, rfl⟩)

theorem execEffect_swi {s t : State} (h : exec .swi s = .next t) : ExecEffect s t := by
  have h : execSwi s = .next t := h
  obtain ⟨_, _, e, _, h⟩ := State.withException_next h
  cases h
  exact .inl (e.registers _ rfl rfl rfl rfl fun _ => rfl)

theorem execEffect_tap {s t : State} (h : exec .tap s = .next t) : ExecEffect s t := by
  have h : execTap s = .next t := h
  exact .inl (registers_effect h rfl rfl rfl rfl rfl)

theorem execEffect_tpa {s t : State} (h : exec .tpa s = .next t) : ExecEffect s t := by
  have h : execTpa s = .next t := h
  exact .inl (registers_effect h rfl rfl rfl rfl rfl)

theorem execEffect_pula {s t : State} (h : exec .pula s = .next t) : ExecEffect s t := by
  have h : execPula s = .next t := h
  obtain ⟨_, _, e, h⟩ := State.withPull_effect h
  cases h
  exact .inl (e.regs rfl rfl rfl rfl rfl)

theorem execEffect_psha {s t : State} (h : exec .psha s = .next t) : ExecEffect s t := by
  have h : execPsha s = .next t := h
  obtain ⟨_, e, _, h⟩ := State.withPush_effect h
  cases h
  exact .inl e

theorem execEffect_pulx {s t : State} (h : exec .pulx s = .next t) : ExecEffect s t := by
  have h : execPulx s = .next t := h
  obtain ⟨_, _, e, h⟩ := State.withPull_effect h
  cases h
  exact .inl (e.regs rfl rfl rfl rfl rfl)

theorem execEffect_pshx {s t : State} (h : exec .pshx s = .next t) : ExecEffect s t := by
  have h : execPshx s = .next t := h
  obtain ⟨_, e, _, h⟩ := State.withPush_effect h
  cases h
  exact .inl e

theorem execEffect_pulh {s t : State} (h : exec .pulh s = .next t) : ExecEffect s t := by
  have h : execPulh s = .next t := h
  obtain ⟨_, _, e, h⟩ := State.withPull_effect h
  cases h
  exact .inl (e.regs rfl rfl rfl rfl rfl)

theorem execEffect_pshh {s t : State} (h : exec .pshh s = .next t) : ExecEffect s t := by
  have h : execPshh s = .next t := h
  obtain ⟨_, e, _, h⟩ := State.withPush_effect h
  cases h
  exact .inl e

theorem execEffect_clrh {s t : State} (h : exec .clrh s = .next t) : ExecEffect s t := by
  have h : execClrh s = .next t := h
  exact .inl (registers_effect h rfl rfl rfl rfl rfl)

theorem execEffect_illegal8D {s t : State} (h : exec .illegal8D s = .next t) : ExecEffect s t := by
  have h : execIllegal8D s = .next t := h
  cases h
  exact .inr (.inl ⟨s, Effect.refl s, rfl⟩)

theorem execEffect_stop {s t : State} (h : exec .stop s = .next t) : ExecEffect s t := by
  have h : Host.Outcome.next (if s.sim.stopEnabled then (s.setCcr { s.ccr with i := false }).setRun .stopped
    else s.resetSequence ResetCause.ilop.bit) = (.next t : Out) := h
  split at h
  · cases h
    exact .inr (.inr (.inr ⟨‹_›, rfl⟩))
  · cases h
    exact .inr (.inl ⟨s, Effect.refl s, rfl⟩)

theorem execEffect_wait {s t : State} (h : exec .wait s = .next t) : ExecEffect s t := by
  have h : execWait s = .next t := h
  cases h
  exact .inr (.inr (.inl rfl))

theorem execEffect_bge {rr : Byte} {s t : State} (h : exec (.bge rr) s = .next t) : ExecEffect s t := by
  have h : execBge rr s = .next t := h
  exact .inl (registers_effect h rfl rfl rfl rfl rfl)

theorem execEffect_blt {rr : Byte} {s t : State} (h : exec (.blt rr) s = .next t) : ExecEffect s t := by
  have h : execBlt rr s = .next t := h
  exact .inl (registers_effect h rfl rfl rfl rfl rfl)

theorem execEffect_bgt {rr : Byte} {s t : State} (h : exec (.bgt rr) s = .next t) : ExecEffect s t := by
  have h : execBgt rr s = .next t := h
  exact .inl (registers_effect h rfl rfl rfl rfl rfl)

theorem execEffect_ble {rr : Byte} {s t : State} (h : exec (.ble rr) s = .next t) : ExecEffect s t := by
  have h : execBle rr s = .next t := h
  exact .inl (registers_effect h rfl rfl rfl rfl rfl)

theorem execEffect_txs {s t : State} (h : exec .txs s = .next t) : ExecEffect s t := by
  have h : execTxs s = .next t := h
  exact .inl (registers_effect h rfl rfl rfl rfl rfl)

theorem execEffect_tsx {s t : State} (h : exec .tsx s = .next t) : ExecEffect s t := by
  have h : execTsx s = .next t := h
  exact .inl (registers_effect h rfl rfl rfl rfl rfl)

theorem execEffect_illegal96 {s t : State} (h : exec .illegal96 s = .next t) : ExecEffect s t := by
  have h : execIllegal96 s = .next t := h
  cases h
  exact .inr (.inl ⟨s, Effect.refl s, rfl⟩)

theorem execEffect_tax {s t : State} (h : exec .tax s = .next t) : ExecEffect s t := by
  have h : execTax s = .next t := h
  exact .inl (registers_effect h rfl rfl rfl rfl rfl)

theorem execEffect_clc {s t : State} (h : exec .clc s = .next t) : ExecEffect s t := by
  have h : execClc s = .next t := h
  exact .inl (registers_effect h rfl rfl rfl rfl rfl)

theorem execEffect_sec {s t : State} (h : exec .sec s = .next t) : ExecEffect s t := by
  have h : execSec s = .next t := h
  exact .inl (registers_effect h rfl rfl rfl rfl rfl)

theorem execEffect_cli {s t : State} (h : exec .cli s = .next t) : ExecEffect s t := by
  have h : execCli s = .next t := h
  exact .inl (registers_effect h rfl rfl rfl rfl rfl)

theorem execEffect_sei {s t : State} (h : exec .sei s = .next t) : ExecEffect s t := by
  have h : execSei s = .next t := h
  exact .inl (registers_effect h rfl rfl rfl rfl rfl)

theorem execEffect_rsp {s t : State} (h : exec .rsp s = .next t) : ExecEffect s t := by
  have h : execRsp s = .next t := h
  exact .inl (registers_effect h rfl rfl rfl rfl rfl)

theorem execEffect_nop {s t : State} (h : exec .nop s = .next t) : ExecEffect s t := by
  have h : execNop s = .next t := h
  exact .inl (registers_effect h rfl rfl rfl rfl rfl)

theorem execEffect_txa {s t : State} (h : exec .txa s = .next t) : ExecEffect s t := by
  have h : execTxa s = .next t := h
  exact .inl (registers_effect h rfl rfl rfl rfl rfl)

theorem execEffect_subImm {ii : Byte} {s t : State} (h : exec (.subImm ii) s = .next t) : ExecEffect s t := by
  have h : execSubImm ii s = .next t := h
  exact .inl (accumulate_effect h)

theorem execEffect_cmpImm {ii : Byte} {s t : State} (h : exec (.cmpImm ii) s = .next t) : ExecEffect s t := by
  have h : execCmpImm ii s = .next t := h
  exact .inl (examine_effect h)

theorem execEffect_sbcImm {ii : Byte} {s t : State} (h : exec (.sbcImm ii) s = .next t) : ExecEffect s t := by
  have h : execSbcImm ii s = .next t := h
  exact .inl (accumulate_effect h)

theorem execEffect_cpxImm {ii : Byte} {s t : State} (h : exec (.cpxImm ii) s = .next t) : ExecEffect s t := by
  have h : execCpxImm ii s = .next t := h
  exact .inl (examine_effect h)

theorem execEffect_andImm {ii : Byte} {s t : State} (h : exec (.andImm ii) s = .next t) : ExecEffect s t := by
  have h : execAndImm ii s = .next t := h
  exact .inl (accumulate_effect h)

theorem execEffect_bitImm {ii : Byte} {s t : State} (h : exec (.bitImm ii) s = .next t) : ExecEffect s t := by
  have h : execBitImm ii s = .next t := h
  exact .inl (examine_effect h)

theorem execEffect_ldaImm {ii : Byte} {s t : State} (h : exec (.ldaImm ii) s = .next t) : ExecEffect s t := by
  have h : execLdaImm ii s = .next t := h
  exact .inl (loadA_effect h)

theorem execEffect_ais {ii : Byte} {s t : State} (h : exec (.ais ii) s = .next t) : ExecEffect s t := by
  have h : execAis ii s = .next t := h
  exact .inl (registers_effect h rfl rfl rfl rfl rfl)

theorem execEffect_eorImm {ii : Byte} {s t : State} (h : exec (.eorImm ii) s = .next t) : ExecEffect s t := by
  have h : execEorImm ii s = .next t := h
  exact .inl (accumulate_effect h)

theorem execEffect_adcImm {ii : Byte} {s t : State} (h : exec (.adcImm ii) s = .next t) : ExecEffect s t := by
  have h : execAdcImm ii s = .next t := h
  exact .inl (accumulate_effect h)

theorem execEffect_oraImm {ii : Byte} {s t : State} (h : exec (.oraImm ii) s = .next t) : ExecEffect s t := by
  have h : execOraImm ii s = .next t := h
  exact .inl (accumulate_effect h)

theorem execEffect_addImm {ii : Byte} {s t : State} (h : exec (.addImm ii) s = .next t) : ExecEffect s t := by
  have h : execAddImm ii s = .next t := h
  exact .inl (accumulate_effect h)

theorem execEffect_illegalAC {s t : State} (h : exec .illegalAC s = .next t) : ExecEffect s t := by
  have h : execIllegalAC s = .next t := h
  cases h
  exact .inr (.inl ⟨s, Effect.refl s, rfl⟩)

theorem execEffect_bsr {rr : Byte} {s t : State} (h : exec (.bsr rr) s = .next t) : ExecEffect s t := by
  have h : execBsr rr s = .next t := h
  obtain ⟨_, e, _, h⟩ := State.withPushPc_effect h
  cases h
  exact .inl (e.regs rfl rfl rfl rfl rfl)

theorem execEffect_ldxImm {ii : Byte} {s t : State} (h : exec (.ldxImm ii) s = .next t) : ExecEffect s t := by
  have h : execLdxImm ii s = .next t := h
  exact .inl (loadX_effect h)

theorem execEffect_aix {ii : Byte} {s t : State} (h : exec (.aix ii) s = .next t) : ExecEffect s t := by
  have h : execAix ii s = .next t := h
  exact .inl (registers_effect h rfl rfl rfl rfl rfl)

theorem execEffect_subDir {dd : Byte} {s t : State} (h : exec (.subDir dd) s = .next t) : ExecEffect s t := by
  have h : execSubDir dd s = .next t := h
  exact .inl (accumulate_effect h)

theorem execEffect_cmpDir {dd : Byte} {s t : State} (h : exec (.cmpDir dd) s = .next t) : ExecEffect s t := by
  have h : execCmpDir dd s = .next t := h
  exact .inl (examine_effect h)

theorem execEffect_sbcDir {dd : Byte} {s t : State} (h : exec (.sbcDir dd) s = .next t) : ExecEffect s t := by
  have h : execSbcDir dd s = .next t := h
  exact .inl (accumulate_effect h)

theorem execEffect_cpxDir {dd : Byte} {s t : State} (h : exec (.cpxDir dd) s = .next t) : ExecEffect s t := by
  have h : execCpxDir dd s = .next t := h
  exact .inl (examine_effect h)

theorem execEffect_andDir {dd : Byte} {s t : State} (h : exec (.andDir dd) s = .next t) : ExecEffect s t := by
  have h : execAndDir dd s = .next t := h
  exact .inl (accumulate_effect h)

theorem execEffect_bitDir {dd : Byte} {s t : State} (h : exec (.bitDir dd) s = .next t) : ExecEffect s t := by
  have h : execBitDir dd s = .next t := h
  exact .inl (examine_effect h)

theorem execEffect_ldaDir {dd : Byte} {s t : State} (h : exec (.ldaDir dd) s = .next t) : ExecEffect s t := by
  have h : execLdaDir dd s = .next t := h
  exact .inl (loadA_effect h)

theorem execEffect_staDir {dd : Byte} {s t : State} (h : exec (.staDir dd) s = .next t) : ExecEffect s t := by
  have h : execStaDir dd s = .next t := h
  exact .inl (storeReg_effect h)

theorem execEffect_eorDir {dd : Byte} {s t : State} (h : exec (.eorDir dd) s = .next t) : ExecEffect s t := by
  have h : execEorDir dd s = .next t := h
  exact .inl (accumulate_effect h)

theorem execEffect_adcDir {dd : Byte} {s t : State} (h : exec (.adcDir dd) s = .next t) : ExecEffect s t := by
  have h : execAdcDir dd s = .next t := h
  exact .inl (accumulate_effect h)

theorem execEffect_oraDir {dd : Byte} {s t : State} (h : exec (.oraDir dd) s = .next t) : ExecEffect s t := by
  have h : execOraDir dd s = .next t := h
  exact .inl (accumulate_effect h)

theorem execEffect_addDir {dd : Byte} {s t : State} (h : exec (.addDir dd) s = .next t) : ExecEffect s t := by
  have h : execAddDir dd s = .next t := h
  exact .inl (accumulate_effect h)

theorem execEffect_jmpDir {dd : Byte} {s t : State} (h : exec (.jmpDir dd) s = .next t) : ExecEffect s t := by
  have h : execJmpDir dd s = .next t := h
  exact .inl (registers_effect h rfl rfl rfl rfl rfl)

theorem execEffect_jsrDir {dd : Byte} {s t : State} (h : exec (.jsrDir dd) s = .next t) : ExecEffect s t := by
  have h : execJsrDir dd s = .next t := h
  exact .inl (call_effect h)

theorem execEffect_ldxDir {dd : Byte} {s t : State} (h : exec (.ldxDir dd) s = .next t) : ExecEffect s t := by
  have h : execLdxDir dd s = .next t := h
  exact .inl (loadX_effect h)

theorem execEffect_stxDir {dd : Byte} {s t : State} (h : exec (.stxDir dd) s = .next t) : ExecEffect s t := by
  have h : execStxDir dd s = .next t := h
  exact .inl (storeReg_effect h)

theorem execEffect_subExt {hhll : Word} {s t : State} (h : exec (.subExt hhll) s = .next t) : ExecEffect s t := by
  have h : execSubExt hhll s = .next t := h
  exact .inl (accumulate_effect h)

theorem execEffect_cmpExt {hhll : Word} {s t : State} (h : exec (.cmpExt hhll) s = .next t) : ExecEffect s t := by
  have h : execCmpExt hhll s = .next t := h
  exact .inl (examine_effect h)

theorem execEffect_sbcExt {hhll : Word} {s t : State} (h : exec (.sbcExt hhll) s = .next t) : ExecEffect s t := by
  have h : execSbcExt hhll s = .next t := h
  exact .inl (accumulate_effect h)

theorem execEffect_cpxExt {hhll : Word} {s t : State} (h : exec (.cpxExt hhll) s = .next t) : ExecEffect s t := by
  have h : execCpxExt hhll s = .next t := h
  exact .inl (examine_effect h)

theorem execEffect_andExt {hhll : Word} {s t : State} (h : exec (.andExt hhll) s = .next t) : ExecEffect s t := by
  have h : execAndExt hhll s = .next t := h
  exact .inl (accumulate_effect h)

theorem execEffect_bitExt {hhll : Word} {s t : State} (h : exec (.bitExt hhll) s = .next t) : ExecEffect s t := by
  have h : execBitExt hhll s = .next t := h
  exact .inl (examine_effect h)

theorem execEffect_ldaExt {hhll : Word} {s t : State} (h : exec (.ldaExt hhll) s = .next t) : ExecEffect s t := by
  have h : execLdaExt hhll s = .next t := h
  exact .inl (loadA_effect h)

theorem execEffect_staExt {hhll : Word} {s t : State} (h : exec (.staExt hhll) s = .next t) : ExecEffect s t := by
  have h : execStaExt hhll s = .next t := h
  exact .inl (storeReg_effect h)

theorem execEffect_eorExt {hhll : Word} {s t : State} (h : exec (.eorExt hhll) s = .next t) : ExecEffect s t := by
  have h : execEorExt hhll s = .next t := h
  exact .inl (accumulate_effect h)

theorem execEffect_adcExt {hhll : Word} {s t : State} (h : exec (.adcExt hhll) s = .next t) : ExecEffect s t := by
  have h : execAdcExt hhll s = .next t := h
  exact .inl (accumulate_effect h)

theorem execEffect_oraExt {hhll : Word} {s t : State} (h : exec (.oraExt hhll) s = .next t) : ExecEffect s t := by
  have h : execOraExt hhll s = .next t := h
  exact .inl (accumulate_effect h)

theorem execEffect_addExt {hhll : Word} {s t : State} (h : exec (.addExt hhll) s = .next t) : ExecEffect s t := by
  have h : execAddExt hhll s = .next t := h
  exact .inl (accumulate_effect h)

theorem execEffect_jmpExt {hhll : Word} {s t : State} (h : exec (.jmpExt hhll) s = .next t) : ExecEffect s t := by
  have h : execJmpExt hhll s = .next t := h
  exact .inl (registers_effect h rfl rfl rfl rfl rfl)

theorem execEffect_jsrExt {hhll : Word} {s t : State} (h : exec (.jsrExt hhll) s = .next t) : ExecEffect s t := by
  have h : execJsrExt hhll s = .next t := h
  exact .inl (call_effect h)

theorem execEffect_ldxExt {hhll : Word} {s t : State} (h : exec (.ldxExt hhll) s = .next t) : ExecEffect s t := by
  have h : execLdxExt hhll s = .next t := h
  exact .inl (loadX_effect h)

theorem execEffect_stxExt {hhll : Word} {s t : State} (h : exec (.stxExt hhll) s = .next t) : ExecEffect s t := by
  have h : execStxExt hhll s = .next t := h
  exact .inl (storeReg_effect h)

theorem execEffect_subIx2 {eeff : Word} {s t : State} (h : exec (.subIx2 eeff) s = .next t) : ExecEffect s t := by
  have h : execSubIx2 eeff s = .next t := h
  exact .inl (accumulate_effect h)

theorem execEffect_cmpIx2 {eeff : Word} {s t : State} (h : exec (.cmpIx2 eeff) s = .next t) : ExecEffect s t := by
  have h : execCmpIx2 eeff s = .next t := h
  exact .inl (examine_effect h)

theorem execEffect_sbcIx2 {eeff : Word} {s t : State} (h : exec (.sbcIx2 eeff) s = .next t) : ExecEffect s t := by
  have h : execSbcIx2 eeff s = .next t := h
  exact .inl (accumulate_effect h)

theorem execEffect_cpxIx2 {eeff : Word} {s t : State} (h : exec (.cpxIx2 eeff) s = .next t) : ExecEffect s t := by
  have h : execCpxIx2 eeff s = .next t := h
  exact .inl (examine_effect h)

theorem execEffect_andIx2 {eeff : Word} {s t : State} (h : exec (.andIx2 eeff) s = .next t) : ExecEffect s t := by
  have h : execAndIx2 eeff s = .next t := h
  exact .inl (accumulate_effect h)

theorem execEffect_bitIx2 {eeff : Word} {s t : State} (h : exec (.bitIx2 eeff) s = .next t) : ExecEffect s t := by
  have h : execBitIx2 eeff s = .next t := h
  exact .inl (examine_effect h)

theorem execEffect_ldaIx2 {eeff : Word} {s t : State} (h : exec (.ldaIx2 eeff) s = .next t) : ExecEffect s t := by
  have h : execLdaIx2 eeff s = .next t := h
  exact .inl (loadA_effect h)

theorem execEffect_staIx2 {eeff : Word} {s t : State} (h : exec (.staIx2 eeff) s = .next t) : ExecEffect s t := by
  have h : execStaIx2 eeff s = .next t := h
  exact .inl (storeReg_effect h)

theorem execEffect_eorIx2 {eeff : Word} {s t : State} (h : exec (.eorIx2 eeff) s = .next t) : ExecEffect s t := by
  have h : execEorIx2 eeff s = .next t := h
  exact .inl (accumulate_effect h)

theorem execEffect_adcIx2 {eeff : Word} {s t : State} (h : exec (.adcIx2 eeff) s = .next t) : ExecEffect s t := by
  have h : execAdcIx2 eeff s = .next t := h
  exact .inl (accumulate_effect h)

theorem execEffect_oraIx2 {eeff : Word} {s t : State} (h : exec (.oraIx2 eeff) s = .next t) : ExecEffect s t := by
  have h : execOraIx2 eeff s = .next t := h
  exact .inl (accumulate_effect h)

theorem execEffect_addIx2 {eeff : Word} {s t : State} (h : exec (.addIx2 eeff) s = .next t) : ExecEffect s t := by
  have h : execAddIx2 eeff s = .next t := h
  exact .inl (accumulate_effect h)

theorem execEffect_jmpIx2 {eeff : Word} {s t : State} (h : exec (.jmpIx2 eeff) s = .next t) : ExecEffect s t := by
  have h : execJmpIx2 eeff s = .next t := h
  exact .inl (registers_effect h rfl rfl rfl rfl rfl)

theorem execEffect_jsrIx2 {eeff : Word} {s t : State} (h : exec (.jsrIx2 eeff) s = .next t) : ExecEffect s t := by
  have h : execJsrIx2 eeff s = .next t := h
  exact .inl (call_effect h)

theorem execEffect_ldxIx2 {eeff : Word} {s t : State} (h : exec (.ldxIx2 eeff) s = .next t) : ExecEffect s t := by
  have h : execLdxIx2 eeff s = .next t := h
  exact .inl (loadX_effect h)

theorem execEffect_stxIx2 {eeff : Word} {s t : State} (h : exec (.stxIx2 eeff) s = .next t) : ExecEffect s t := by
  have h : execStxIx2 eeff s = .next t := h
  exact .inl (storeReg_effect h)

theorem execEffect_subIx1 {ff : Byte} {s t : State} (h : exec (.subIx1 ff) s = .next t) : ExecEffect s t := by
  have h : execSubIx1 ff s = .next t := h
  exact .inl (accumulate_effect h)

theorem execEffect_cmpIx1 {ff : Byte} {s t : State} (h : exec (.cmpIx1 ff) s = .next t) : ExecEffect s t := by
  have h : execCmpIx1 ff s = .next t := h
  exact .inl (examine_effect h)

theorem execEffect_sbcIx1 {ff : Byte} {s t : State} (h : exec (.sbcIx1 ff) s = .next t) : ExecEffect s t := by
  have h : execSbcIx1 ff s = .next t := h
  exact .inl (accumulate_effect h)

theorem execEffect_cpxIx1 {ff : Byte} {s t : State} (h : exec (.cpxIx1 ff) s = .next t) : ExecEffect s t := by
  have h : execCpxIx1 ff s = .next t := h
  exact .inl (examine_effect h)

theorem execEffect_andIx1 {ff : Byte} {s t : State} (h : exec (.andIx1 ff) s = .next t) : ExecEffect s t := by
  have h : execAndIx1 ff s = .next t := h
  exact .inl (accumulate_effect h)

theorem execEffect_bitIx1 {ff : Byte} {s t : State} (h : exec (.bitIx1 ff) s = .next t) : ExecEffect s t := by
  have h : execBitIx1 ff s = .next t := h
  exact .inl (examine_effect h)

theorem execEffect_ldaIx1 {ff : Byte} {s t : State} (h : exec (.ldaIx1 ff) s = .next t) : ExecEffect s t := by
  have h : execLdaIx1 ff s = .next t := h
  exact .inl (loadA_effect h)

theorem execEffect_staIx1 {ff : Byte} {s t : State} (h : exec (.staIx1 ff) s = .next t) : ExecEffect s t := by
  have h : execStaIx1 ff s = .next t := h
  exact .inl (storeReg_effect h)

theorem execEffect_eorIx1 {ff : Byte} {s t : State} (h : exec (.eorIx1 ff) s = .next t) : ExecEffect s t := by
  have h : execEorIx1 ff s = .next t := h
  exact .inl (accumulate_effect h)

theorem execEffect_adcIx1 {ff : Byte} {s t : State} (h : exec (.adcIx1 ff) s = .next t) : ExecEffect s t := by
  have h : execAdcIx1 ff s = .next t := h
  exact .inl (accumulate_effect h)

theorem execEffect_oraIx1 {ff : Byte} {s t : State} (h : exec (.oraIx1 ff) s = .next t) : ExecEffect s t := by
  have h : execOraIx1 ff s = .next t := h
  exact .inl (accumulate_effect h)

theorem execEffect_addIx1 {ff : Byte} {s t : State} (h : exec (.addIx1 ff) s = .next t) : ExecEffect s t := by
  have h : execAddIx1 ff s = .next t := h
  exact .inl (accumulate_effect h)

theorem execEffect_jmpIx1 {ff : Byte} {s t : State} (h : exec (.jmpIx1 ff) s = .next t) : ExecEffect s t := by
  have h : execJmpIx1 ff s = .next t := h
  exact .inl (registers_effect h rfl rfl rfl rfl rfl)

theorem execEffect_jsrIx1 {ff : Byte} {s t : State} (h : exec (.jsrIx1 ff) s = .next t) : ExecEffect s t := by
  have h : execJsrIx1 ff s = .next t := h
  exact .inl (call_effect h)

theorem execEffect_ldxIx1 {ff : Byte} {s t : State} (h : exec (.ldxIx1 ff) s = .next t) : ExecEffect s t := by
  have h : execLdxIx1 ff s = .next t := h
  exact .inl (loadX_effect h)

theorem execEffect_stxIx1 {ff : Byte} {s t : State} (h : exec (.stxIx1 ff) s = .next t) : ExecEffect s t := by
  have h : execStxIx1 ff s = .next t := h
  exact .inl (storeReg_effect h)

theorem execEffect_subIx {s t : State} (h : exec .subIx s = .next t) : ExecEffect s t := by
  have h : execSubIx s = .next t := h
  exact .inl (accumulate_effect h)

theorem execEffect_cmpIx {s t : State} (h : exec .cmpIx s = .next t) : ExecEffect s t := by
  have h : execCmpIx s = .next t := h
  exact .inl (examine_effect h)

theorem execEffect_sbcIx {s t : State} (h : exec .sbcIx s = .next t) : ExecEffect s t := by
  have h : execSbcIx s = .next t := h
  exact .inl (accumulate_effect h)

theorem execEffect_cpxIx {s t : State} (h : exec .cpxIx s = .next t) : ExecEffect s t := by
  have h : execCpxIx s = .next t := h
  exact .inl (examine_effect h)

theorem execEffect_andIx {s t : State} (h : exec .andIx s = .next t) : ExecEffect s t := by
  have h : execAndIx s = .next t := h
  exact .inl (accumulate_effect h)

theorem execEffect_bitIx {s t : State} (h : exec .bitIx s = .next t) : ExecEffect s t := by
  have h : execBitIx s = .next t := h
  exact .inl (examine_effect h)

theorem execEffect_ldaIx {s t : State} (h : exec .ldaIx s = .next t) : ExecEffect s t := by
  have h : execLdaIx s = .next t := h
  exact .inl (loadA_effect h)

theorem execEffect_staIx {s t : State} (h : exec .staIx s = .next t) : ExecEffect s t := by
  have h : execStaIx s = .next t := h
  exact .inl (storeReg_effect h)

theorem execEffect_eorIx {s t : State} (h : exec .eorIx s = .next t) : ExecEffect s t := by
  have h : execEorIx s = .next t := h
  exact .inl (accumulate_effect h)

theorem execEffect_adcIx {s t : State} (h : exec .adcIx s = .next t) : ExecEffect s t := by
  have h : execAdcIx s = .next t := h
  exact .inl (accumulate_effect h)

theorem execEffect_oraIx {s t : State} (h : exec .oraIx s = .next t) : ExecEffect s t := by
  have h : execOraIx s = .next t := h
  exact .inl (accumulate_effect h)

theorem execEffect_addIx {s t : State} (h : exec .addIx s = .next t) : ExecEffect s t := by
  have h : execAddIx s = .next t := h
  exact .inl (accumulate_effect h)

theorem execEffect_jmpIx {s t : State} (h : exec .jmpIx s = .next t) : ExecEffect s t := by
  have h : execJmpIx s = .next t := h
  exact .inl (registers_effect h rfl rfl rfl rfl rfl)

theorem execEffect_jsrIx {s t : State} (h : exec .jsrIx s = .next t) : ExecEffect s t := by
  have h : execJsrIx s = .next t := h
  exact .inl (call_effect h)

theorem execEffect_ldxIx {s t : State} (h : exec .ldxIx s = .next t) : ExecEffect s t := by
  have h : execLdxIx s = .next t := h
  exact .inl (loadX_effect h)

theorem execEffect_stxIx {s t : State} (h : exec .stxIx s = .next t) : ExecEffect s t := by
  have h : execStxIx s = .next t := h
  exact .inl (storeReg_effect h)

theorem execEffect_negSp1 {ff : Byte} {s t : State} (h : exec (.negSp1 ff) s = .next t) : ExecEffect s t := by
  have h : execNegSp1 ff s = .next t := h
  exact .inl (modifyMem_effect h)

theorem execEffect_cbeqSp1 {ff : Byte} {rr : Byte} {s t : State} (h : exec (.cbeqSp1 ff rr) s = .next t) : ExecEffect s t := by
  have h : execCbeqSp1 ff rr s = .next t := h
  exact .inl (compareBranch_effect h)

theorem execEffect_comSp1 {ff : Byte} {s t : State} (h : exec (.comSp1 ff) s = .next t) : ExecEffect s t := by
  have h : execComSp1 ff s = .next t := h
  exact .inl (modifyMem_effect h)

theorem execEffect_lsrSp1 {ff : Byte} {s t : State} (h : exec (.lsrSp1 ff) s = .next t) : ExecEffect s t := by
  have h : execLsrSp1 ff s = .next t := h
  exact .inl (modifyMem_effect h)

theorem execEffect_rorSp1 {ff : Byte} {s t : State} (h : exec (.rorSp1 ff) s = .next t) : ExecEffect s t := by
  have h : execRorSp1 ff s = .next t := h
  exact .inl (modifyMem_effect h)

theorem execEffect_asrSp1 {ff : Byte} {s t : State} (h : exec (.asrSp1 ff) s = .next t) : ExecEffect s t := by
  have h : execAsrSp1 ff s = .next t := h
  exact .inl (modifyMem_effect h)

theorem execEffect_lslSp1 {ff : Byte} {s t : State} (h : exec (.lslSp1 ff) s = .next t) : ExecEffect s t := by
  have h : execLslSp1 ff s = .next t := h
  exact .inl (modifyMem_effect h)

theorem execEffect_rolSp1 {ff : Byte} {s t : State} (h : exec (.rolSp1 ff) s = .next t) : ExecEffect s t := by
  have h : execRolSp1 ff s = .next t := h
  exact .inl (modifyMem_effect h)

theorem execEffect_decSp1 {ff : Byte} {s t : State} (h : exec (.decSp1 ff) s = .next t) : ExecEffect s t := by
  have h : execDecSp1 ff s = .next t := h
  exact .inl (modifyMem_effect h)

theorem execEffect_dbnzSp1 {ff : Byte} {rr : Byte} {s t : State} (h : exec (.dbnzSp1 ff rr) s = .next t) : ExecEffect s t := by
  have h : execDbnzSp1 ff rr s = .next t := h
  exact .inl (decrementBranch_effect h)

theorem execEffect_incSp1 {ff : Byte} {s t : State} (h : exec (.incSp1 ff) s = .next t) : ExecEffect s t := by
  have h : execIncSp1 ff s = .next t := h
  exact .inl (modifyMem_effect h)

theorem execEffect_tstSp1 {ff : Byte} {s t : State} (h : exec (.tstSp1 ff) s = .next t) : ExecEffect s t := by
  have h : execTstSp1 ff s = .next t := h
  exact .inl (testMem_effect h)

theorem execEffect_clrSp1 {ff : Byte} {s t : State} (h : exec (.clrSp1 ff) s = .next t) : ExecEffect s t := by
  have h : execClrSp1 ff s = .next t := h
  exact .inl (clearMem_effect h)

theorem execEffect_subSp2 {eeff : Word} {s t : State} (h : exec (.subSp2 eeff) s = .next t) : ExecEffect s t := by
  have h : execSubSp2 eeff s = .next t := h
  exact .inl (accumulate_effect h)

theorem execEffect_cmpSp2 {eeff : Word} {s t : State} (h : exec (.cmpSp2 eeff) s = .next t) : ExecEffect s t := by
  have h : execCmpSp2 eeff s = .next t := h
  exact .inl (examine_effect h)

theorem execEffect_sbcSp2 {eeff : Word} {s t : State} (h : exec (.sbcSp2 eeff) s = .next t) : ExecEffect s t := by
  have h : execSbcSp2 eeff s = .next t := h
  exact .inl (accumulate_effect h)

theorem execEffect_cpxSp2 {eeff : Word} {s t : State} (h : exec (.cpxSp2 eeff) s = .next t) : ExecEffect s t := by
  have h : execCpxSp2 eeff s = .next t := h
  exact .inl (examine_effect h)

theorem execEffect_andSp2 {eeff : Word} {s t : State} (h : exec (.andSp2 eeff) s = .next t) : ExecEffect s t := by
  have h : execAndSp2 eeff s = .next t := h
  exact .inl (accumulate_effect h)

theorem execEffect_bitSp2 {eeff : Word} {s t : State} (h : exec (.bitSp2 eeff) s = .next t) : ExecEffect s t := by
  have h : execBitSp2 eeff s = .next t := h
  exact .inl (examine_effect h)

theorem execEffect_ldaSp2 {eeff : Word} {s t : State} (h : exec (.ldaSp2 eeff) s = .next t) : ExecEffect s t := by
  have h : execLdaSp2 eeff s = .next t := h
  exact .inl (loadA_effect h)

theorem execEffect_staSp2 {eeff : Word} {s t : State} (h : exec (.staSp2 eeff) s = .next t) : ExecEffect s t := by
  have h : execStaSp2 eeff s = .next t := h
  exact .inl (storeReg_effect h)

theorem execEffect_eorSp2 {eeff : Word} {s t : State} (h : exec (.eorSp2 eeff) s = .next t) : ExecEffect s t := by
  have h : execEorSp2 eeff s = .next t := h
  exact .inl (accumulate_effect h)

theorem execEffect_adcSp2 {eeff : Word} {s t : State} (h : exec (.adcSp2 eeff) s = .next t) : ExecEffect s t := by
  have h : execAdcSp2 eeff s = .next t := h
  exact .inl (accumulate_effect h)

theorem execEffect_oraSp2 {eeff : Word} {s t : State} (h : exec (.oraSp2 eeff) s = .next t) : ExecEffect s t := by
  have h : execOraSp2 eeff s = .next t := h
  exact .inl (accumulate_effect h)

theorem execEffect_addSp2 {eeff : Word} {s t : State} (h : exec (.addSp2 eeff) s = .next t) : ExecEffect s t := by
  have h : execAddSp2 eeff s = .next t := h
  exact .inl (accumulate_effect h)

theorem execEffect_ldxSp2 {eeff : Word} {s t : State} (h : exec (.ldxSp2 eeff) s = .next t) : ExecEffect s t := by
  have h : execLdxSp2 eeff s = .next t := h
  exact .inl (loadX_effect h)

theorem execEffect_stxSp2 {eeff : Word} {s t : State} (h : exec (.stxSp2 eeff) s = .next t) : ExecEffect s t := by
  have h : execStxSp2 eeff s = .next t := h
  exact .inl (storeReg_effect h)

theorem execEffect_subSp1 {ff : Byte} {s t : State} (h : exec (.subSp1 ff) s = .next t) : ExecEffect s t := by
  have h : execSubSp1 ff s = .next t := h
  exact .inl (accumulate_effect h)

theorem execEffect_cmpSp1 {ff : Byte} {s t : State} (h : exec (.cmpSp1 ff) s = .next t) : ExecEffect s t := by
  have h : execCmpSp1 ff s = .next t := h
  exact .inl (examine_effect h)

theorem execEffect_sbcSp1 {ff : Byte} {s t : State} (h : exec (.sbcSp1 ff) s = .next t) : ExecEffect s t := by
  have h : execSbcSp1 ff s = .next t := h
  exact .inl (accumulate_effect h)

theorem execEffect_cpxSp1 {ff : Byte} {s t : State} (h : exec (.cpxSp1 ff) s = .next t) : ExecEffect s t := by
  have h : execCpxSp1 ff s = .next t := h
  exact .inl (examine_effect h)

theorem execEffect_andSp1 {ff : Byte} {s t : State} (h : exec (.andSp1 ff) s = .next t) : ExecEffect s t := by
  have h : execAndSp1 ff s = .next t := h
  exact .inl (accumulate_effect h)

theorem execEffect_bitSp1 {ff : Byte} {s t : State} (h : exec (.bitSp1 ff) s = .next t) : ExecEffect s t := by
  have h : execBitSp1 ff s = .next t := h
  exact .inl (examine_effect h)

theorem execEffect_ldaSp1 {ff : Byte} {s t : State} (h : exec (.ldaSp1 ff) s = .next t) : ExecEffect s t := by
  have h : execLdaSp1 ff s = .next t := h
  exact .inl (loadA_effect h)

theorem execEffect_staSp1 {ff : Byte} {s t : State} (h : exec (.staSp1 ff) s = .next t) : ExecEffect s t := by
  have h : execStaSp1 ff s = .next t := h
  exact .inl (storeReg_effect h)

theorem execEffect_eorSp1 {ff : Byte} {s t : State} (h : exec (.eorSp1 ff) s = .next t) : ExecEffect s t := by
  have h : execEorSp1 ff s = .next t := h
  exact .inl (accumulate_effect h)

theorem execEffect_adcSp1 {ff : Byte} {s t : State} (h : exec (.adcSp1 ff) s = .next t) : ExecEffect s t := by
  have h : execAdcSp1 ff s = .next t := h
  exact .inl (accumulate_effect h)

theorem execEffect_oraSp1 {ff : Byte} {s t : State} (h : exec (.oraSp1 ff) s = .next t) : ExecEffect s t := by
  have h : execOraSp1 ff s = .next t := h
  exact .inl (accumulate_effect h)

theorem execEffect_addSp1 {ff : Byte} {s t : State} (h : exec (.addSp1 ff) s = .next t) : ExecEffect s t := by
  have h : execAddSp1 ff s = .next t := h
  exact .inl (accumulate_effect h)

theorem execEffect_ldxSp1 {ff : Byte} {s t : State} (h : exec (.ldxSp1 ff) s = .next t) : ExecEffect s t := by
  have h : execLdxSp1 ff s = .next t := h
  exact .inl (loadX_effect h)

theorem execEffect_stxSp1 {ff : Byte} {s t : State} (h : exec (.stxSp1 ff) s = .next t) : ExecEffect s t := by
  have h : execStxSp1 ff s = .next t := h
  exact .inl (storeReg_effect h)

theorem execEffect_illegalPage2 {b1 : Byte} {s t : State} (h : exec (.illegalPage2 b1) s = .next t) : ExecEffect s t := by
  have h : execIllegalPage2 b1 s = .next t := h
  cases h
  exact .inr (.inl ⟨s, Effect.refl s, rfl⟩)

/-- What every run of page2Runs6, page2RunsD and page2RunsE may do. -/
def Page2Run.Effective : Page2Run → Prop
  | .sp1 f => ∀ ff s t, f ff s = .next t → Effect s t
  | .sp2 f => ∀ w s t, f w s = .next t → Effect s t
  | .sp1Rel f => ∀ ff rr s t, f ff rr s = .next t → Effect s t

theorem page2Runs6_effective : ∀ p ∈ page2Runs6, p.2.Effective := by
  simp only [page2Runs6, List.forall_mem_cons]
  exact ⟨fun _ _ _ h => modifyMem_effect h,
    fun _ _ _ _ h => compareBranch_effect h,
    fun _ _ _ h => modifyMem_effect h,
    fun _ _ _ h => modifyMem_effect h,
    fun _ _ _ h => modifyMem_effect h,
    fun _ _ _ h => modifyMem_effect h,
    fun _ _ _ h => modifyMem_effect h,
    fun _ _ _ h => modifyMem_effect h,
    fun _ _ _ h => modifyMem_effect h,
    fun _ _ _ _ h => decrementBranch_effect h,
    fun _ _ _ h => modifyMem_effect h,
    fun _ _ _ h => testMem_effect h,
    fun _ _ _ h => clearMem_effect h,
    fun _ h => absurd h List.not_mem_nil⟩

theorem page2RunsD_effective : ∀ p ∈ page2RunsD, p.2.Effective := by
  simp only [page2RunsD, List.forall_mem_cons]
  exact ⟨fun _ _ _ h => accumulate_effect h,
    fun _ _ _ h => examine_effect h,
    fun _ _ _ h => accumulate_effect h,
    fun _ _ _ h => examine_effect h,
    fun _ _ _ h => accumulate_effect h,
    fun _ _ _ h => examine_effect h,
    fun _ _ _ h => loadA_effect h,
    fun _ _ _ h => storeReg_effect h,
    fun _ _ _ h => accumulate_effect h,
    fun _ _ _ h => accumulate_effect h,
    fun _ _ _ h => accumulate_effect h,
    fun _ _ _ h => accumulate_effect h,
    fun _ _ _ h => loadX_effect h,
    fun _ _ _ h => storeReg_effect h,
    fun _ h => absurd h List.not_mem_nil⟩

theorem page2RunsE_effective : ∀ p ∈ page2RunsE, p.2.Effective := by
  simp only [page2RunsE, List.forall_mem_cons]
  exact ⟨fun _ _ _ h => accumulate_effect h,
    fun _ _ _ h => examine_effect h,
    fun _ _ _ h => accumulate_effect h,
    fun _ _ _ h => examine_effect h,
    fun _ _ _ h => accumulate_effect h,
    fun _ _ _ h => examine_effect h,
    fun _ _ _ h => loadA_effect h,
    fun _ _ _ h => storeReg_effect h,
    fun _ _ _ h => accumulate_effect h,
    fun _ _ _ h => accumulate_effect h,
    fun _ _ _ h => accumulate_effect h,
    fun _ _ _ h => accumulate_effect h,
    fun _ _ _ h => loadX_effect h,
    fun _ _ _ h => storeReg_effect h,
    fun _ h => absurd h List.not_mem_nil⟩

theorem lookup_mem {l : List (Byte × Page2Run)} {b : Byte} {r : Page2Run} (h : l.lookup b = some r) : ∃ p ∈ l, p.2 = r := by
  induction l with
  | nil => cases h
  | cons p l ih =>
    simp only [List.lookup] at h
    split at h
    · cases h
      exact ⟨p, List.mem_cons_self, rfl⟩
    · obtain ⟨q, hq, e⟩ := ih h
      exact ⟨q, List.mem_cons_of_mem _ hq, e⟩

theorem State.withFetch8_effect {s t : State} {k : Byte → State → Out} (h : s.withFetch8 k = .next t) :
    ∃ v u, Effect s u ∧ k v u = .next t := by
  obtain ⟨v, u, e, _, h⟩ := State.withRead_effect h
  exact ⟨v, u.setPc (s.pc + 1), e.regs rfl rfl rfl rfl rfl, h⟩

theorem execEffect_page2Prefix {s t : State} (h : exec .page2Prefix s = .next t) : ExecEffect s t := by
  have h : execPage2Prefix s = .next t := h
  obtain ⟨b1, u, e, h⟩ := State.withFetch8_effect h
  have all : ∀ p ∈ page2Runs6 ++ page2RunsD ++ page2RunsE, p.2.Effective := fun p hp => by
    rcases List.mem_append.1 hp with hp | hp
    · rcases List.mem_append.1 hp with hp | hp
      · exact page2Runs6_effective p hp
      · exact page2RunsD_effective p hp
    · exact page2RunsE_effective p hp
  cases hl : (page2Runs6 ++ page2RunsD ++ page2RunsE).lookup b1 with
  | none =>
    rw [hl] at h
    cases h
    exact .inr (.inl ⟨u, e, rfl⟩)
  | some r =>
    rw [hl] at h
    obtain ⟨p, hp, hr⟩ := lookup_mem hl
    have hf := all p hp
    rw [hr] at hf
    cases r with
    | sp1 f =>
      obtain ⟨_, _, e', h⟩ := State.withFetch8_effect h
      exact .inl ((e.trans e').trans (hf _ _ _ h))
    | sp2 f =>
      obtain ⟨_, _, e', h⟩ := State.withFetch8_effect h
      obtain ⟨_, _, e'', h⟩ := State.withFetch8_effect h
      exact .inl (((e.trans e').trans e'').trans (hf _ _ _ h))
    | sp1Rel f =>
      obtain ⟨_, _, e', h⟩ := State.withFetch8_effect h
      obtain ⟨_, _, e'', h⟩ := State.withFetch8_effect h
      exact .inl (((e.trans e').trans e'').trans (hf _ _ _ _ h))

/-- What any instruction may do. -/
theorem exec_effect {i : Instr} {s t : State} (h : exec i s = .next t) : ExecEffect s t := by
  cases i
  case brset => exact execEffect_brset h
  case brclr => exact execEffect_brclr h
  case bset => exact execEffect_bset h
  case bclr => exact execEffect_bclr h
  case bra => exact execEffect_bra h
  case brn => exact execEffect_brn h
  case bhi => exact execEffect_bhi h
  case bls => exact execEffect_bls h
  case bcc => exact execEffect_bcc h
  case bcs => exact execEffect_bcs h
  case bne => exact execEffect_bne h
  case beq => exact execEffect_beq h
  case bhcc => exact execEffect_bhcc h
  case bhcs => exact execEffect_bhcs h
  case bpl => exact execEffect_bpl h
  case bmi => exact execEffect_bmi h
  case bmc => exact execEffect_bmc h
  case bms => exact execEffect_bms h
  case bil => exact execEffect_bil h
  case bih => exact execEffect_bih h
  case negDir => exact execEffect_negDir h
  case cbeqDir => exact execEffect_cbeqDir h
  case illegal32 => exact execEffect_illegal32 h
  case comDir => exact execEffect_comDir h
  case lsrDir => exact execEffect_lsrDir h
  case sthx => exact execEffect_sthx h
  case rorDir => exact execEffect_rorDir h
  case asrDir => exact execEffect_asrDir h
  case lslDir => exact execEffect_lslDir h
  case rolDir => exact execEffect_rolDir h
  case decDir => exact execEffect_decDir h
  case dbnzDir => exact execEffect_dbnzDir h
  case incDir => exact execEffect_incDir h
  case tstDir => exact execEffect_tstDir h
  case illegal3E => exact execEffect_illegal3E h
  case clrDir => exact execEffect_clrDir h
  case nega => exact execEffect_nega h
  case cbeqa => exact execEffect_cbeqa h
  case mul => exact execEffect_mul h
  case coma => exact execEffect_coma h
  case lsra => exact execEffect_lsra h
  case ldhxImm => exact execEffect_ldhxImm h
  case rora => exact execEffect_rora h
  case asra => exact execEffect_asra h
  case lsla => exact execEffect_lsla h
  case rola => exact execEffect_rola h
  case deca => exact execEffect_deca h
  case dbnza => exact execEffect_dbnza h
  case inca => exact execEffect_inca h
  case tsta => exact execEffect_tsta h
  case movDd => exact execEffect_movDd h
  case clra => exact execEffect_clra h
  case negx => exact execEffect_negx h
  case cbeqx => exact execEffect_cbeqx h
  case div => exact execEffect_div h
  case comx => exact execEffect_comx h
  case lsrx => exact execEffect_lsrx h
  case ldhxDir => exact execEffect_ldhxDir h
  case rorx => exact execEffect_rorx h
  case asrx => exact execEffect_asrx h
  case lslx => exact execEffect_lslx h
  case rolx => exact execEffect_rolx h
  case decx => exact execEffect_decx h
  case dbnzx => exact execEffect_dbnzx h
  case incx => exact execEffect_incx h
  case tstx => exact execEffect_tstx h
  case movDixPlus => exact execEffect_movDixPlus h
  case clrx => exact execEffect_clrx h
  case negIx1 => exact execEffect_negIx1 h
  case cbeqIx1Plus => exact execEffect_cbeqIx1Plus h
  case nsa => exact execEffect_nsa h
  case comIx1 => exact execEffect_comIx1 h
  case lsrIx1 => exact execEffect_lsrIx1 h
  case cphxImm => exact execEffect_cphxImm h
  case rorIx1 => exact execEffect_rorIx1 h
  case asrIx1 => exact execEffect_asrIx1 h
  case lslIx1 => exact execEffect_lslIx1 h
  case rolIx1 => exact execEffect_rolIx1 h
  case decIx1 => exact execEffect_decIx1 h
  case dbnzIx1 => exact execEffect_dbnzIx1 h
  case incIx1 => exact execEffect_incIx1 h
  case tstIx1 => exact execEffect_tstIx1 h
  case movImd => exact execEffect_movImd h
  case clrIx1 => exact execEffect_clrIx1 h
  case negIx => exact execEffect_negIx h
  case cbeqIxPlus => exact execEffect_cbeqIxPlus h
  case daa => exact execEffect_daa h
  case comIx => exact execEffect_comIx h
  case lsrIx => exact execEffect_lsrIx h
  case cphxDir => exact execEffect_cphxDir h
  case rorIx => exact execEffect_rorIx h
  case asrIx => exact execEffect_asrIx h
  case lslIx => exact execEffect_lslIx h
  case rolIx => exact execEffect_rolIx h
  case decIx => exact execEffect_decIx h
  case dbnzIx => exact execEffect_dbnzIx h
  case incIx => exact execEffect_incIx h
  case tstIx => exact execEffect_tstIx h
  case movIxPlusD => exact execEffect_movIxPlusD h
  case clrIx => exact execEffect_clrIx h
  case rti => exact execEffect_rti h
  case rts => exact execEffect_rts h
  case illegal82 => exact execEffect_illegal82 h
  case swi => exact execEffect_swi h
  case tap => exact execEffect_tap h
  case tpa => exact execEffect_tpa h
  case pula => exact execEffect_pula h
  case psha => exact execEffect_psha h
  case pulx => exact execEffect_pulx h
  case pshx => exact execEffect_pshx h
  case pulh => exact execEffect_pulh h
  case pshh => exact execEffect_pshh h
  case clrh => exact execEffect_clrh h
  case illegal8D => exact execEffect_illegal8D h
  case stop => exact execEffect_stop h
  case wait => exact execEffect_wait h
  case bge => exact execEffect_bge h
  case blt => exact execEffect_blt h
  case bgt => exact execEffect_bgt h
  case ble => exact execEffect_ble h
  case txs => exact execEffect_txs h
  case tsx => exact execEffect_tsx h
  case illegal96 => exact execEffect_illegal96 h
  case tax => exact execEffect_tax h
  case clc => exact execEffect_clc h
  case sec => exact execEffect_sec h
  case cli => exact execEffect_cli h
  case sei => exact execEffect_sei h
  case rsp => exact execEffect_rsp h
  case nop => exact execEffect_nop h
  case page2Prefix => exact execEffect_page2Prefix h
  case txa => exact execEffect_txa h
  case subImm => exact execEffect_subImm h
  case cmpImm => exact execEffect_cmpImm h
  case sbcImm => exact execEffect_sbcImm h
  case cpxImm => exact execEffect_cpxImm h
  case andImm => exact execEffect_andImm h
  case bitImm => exact execEffect_bitImm h
  case ldaImm => exact execEffect_ldaImm h
  case ais => exact execEffect_ais h
  case eorImm => exact execEffect_eorImm h
  case adcImm => exact execEffect_adcImm h
  case oraImm => exact execEffect_oraImm h
  case addImm => exact execEffect_addImm h
  case illegalAC => exact execEffect_illegalAC h
  case bsr => exact execEffect_bsr h
  case ldxImm => exact execEffect_ldxImm h
  case aix => exact execEffect_aix h
  case subDir => exact execEffect_subDir h
  case cmpDir => exact execEffect_cmpDir h
  case sbcDir => exact execEffect_sbcDir h
  case cpxDir => exact execEffect_cpxDir h
  case andDir => exact execEffect_andDir h
  case bitDir => exact execEffect_bitDir h
  case ldaDir => exact execEffect_ldaDir h
  case staDir => exact execEffect_staDir h
  case eorDir => exact execEffect_eorDir h
  case adcDir => exact execEffect_adcDir h
  case oraDir => exact execEffect_oraDir h
  case addDir => exact execEffect_addDir h
  case jmpDir => exact execEffect_jmpDir h
  case jsrDir => exact execEffect_jsrDir h
  case ldxDir => exact execEffect_ldxDir h
  case stxDir => exact execEffect_stxDir h
  case subExt => exact execEffect_subExt h
  case cmpExt => exact execEffect_cmpExt h
  case sbcExt => exact execEffect_sbcExt h
  case cpxExt => exact execEffect_cpxExt h
  case andExt => exact execEffect_andExt h
  case bitExt => exact execEffect_bitExt h
  case ldaExt => exact execEffect_ldaExt h
  case staExt => exact execEffect_staExt h
  case eorExt => exact execEffect_eorExt h
  case adcExt => exact execEffect_adcExt h
  case oraExt => exact execEffect_oraExt h
  case addExt => exact execEffect_addExt h
  case jmpExt => exact execEffect_jmpExt h
  case jsrExt => exact execEffect_jsrExt h
  case ldxExt => exact execEffect_ldxExt h
  case stxExt => exact execEffect_stxExt h
  case subIx2 => exact execEffect_subIx2 h
  case cmpIx2 => exact execEffect_cmpIx2 h
  case sbcIx2 => exact execEffect_sbcIx2 h
  case cpxIx2 => exact execEffect_cpxIx2 h
  case andIx2 => exact execEffect_andIx2 h
  case bitIx2 => exact execEffect_bitIx2 h
  case ldaIx2 => exact execEffect_ldaIx2 h
  case staIx2 => exact execEffect_staIx2 h
  case eorIx2 => exact execEffect_eorIx2 h
  case adcIx2 => exact execEffect_adcIx2 h
  case oraIx2 => exact execEffect_oraIx2 h
  case addIx2 => exact execEffect_addIx2 h
  case jmpIx2 => exact execEffect_jmpIx2 h
  case jsrIx2 => exact execEffect_jsrIx2 h
  case ldxIx2 => exact execEffect_ldxIx2 h
  case stxIx2 => exact execEffect_stxIx2 h
  case subIx1 => exact execEffect_subIx1 h
  case cmpIx1 => exact execEffect_cmpIx1 h
  case sbcIx1 => exact execEffect_sbcIx1 h
  case cpxIx1 => exact execEffect_cpxIx1 h
  case andIx1 => exact execEffect_andIx1 h
  case bitIx1 => exact execEffect_bitIx1 h
  case ldaIx1 => exact execEffect_ldaIx1 h
  case staIx1 => exact execEffect_staIx1 h
  case eorIx1 => exact execEffect_eorIx1 h
  case adcIx1 => exact execEffect_adcIx1 h
  case oraIx1 => exact execEffect_oraIx1 h
  case addIx1 => exact execEffect_addIx1 h
  case jmpIx1 => exact execEffect_jmpIx1 h
  case jsrIx1 => exact execEffect_jsrIx1 h
  case ldxIx1 => exact execEffect_ldxIx1 h
  case stxIx1 => exact execEffect_stxIx1 h
  case subIx => exact execEffect_subIx h
  case cmpIx => exact execEffect_cmpIx h
  case sbcIx => exact execEffect_sbcIx h
  case cpxIx => exact execEffect_cpxIx h
  case andIx => exact execEffect_andIx h
  case bitIx => exact execEffect_bitIx h
  case ldaIx => exact execEffect_ldaIx h
  case staIx => exact execEffect_staIx h
  case eorIx => exact execEffect_eorIx h
  case adcIx => exact execEffect_adcIx h
  case oraIx => exact execEffect_oraIx h
  case addIx => exact execEffect_addIx h
  case jmpIx => exact execEffect_jmpIx h
  case jsrIx => exact execEffect_jsrIx h
  case ldxIx => exact execEffect_ldxIx h
  case stxIx => exact execEffect_stxIx h
  case negSp1 => exact execEffect_negSp1 h
  case cbeqSp1 => exact execEffect_cbeqSp1 h
  case comSp1 => exact execEffect_comSp1 h
  case lsrSp1 => exact execEffect_lsrSp1 h
  case rorSp1 => exact execEffect_rorSp1 h
  case asrSp1 => exact execEffect_asrSp1 h
  case lslSp1 => exact execEffect_lslSp1 h
  case rolSp1 => exact execEffect_rolSp1 h
  case decSp1 => exact execEffect_decSp1 h
  case dbnzSp1 => exact execEffect_dbnzSp1 h
  case incSp1 => exact execEffect_incSp1 h
  case tstSp1 => exact execEffect_tstSp1 h
  case clrSp1 => exact execEffect_clrSp1 h
  case subSp2 => exact execEffect_subSp2 h
  case cmpSp2 => exact execEffect_cmpSp2 h
  case sbcSp2 => exact execEffect_sbcSp2 h
  case cpxSp2 => exact execEffect_cpxSp2 h
  case andSp2 => exact execEffect_andSp2 h
  case bitSp2 => exact execEffect_bitSp2 h
  case ldaSp2 => exact execEffect_ldaSp2 h
  case staSp2 => exact execEffect_staSp2 h
  case eorSp2 => exact execEffect_eorSp2 h
  case adcSp2 => exact execEffect_adcSp2 h
  case oraSp2 => exact execEffect_oraSp2 h
  case addSp2 => exact execEffect_addSp2 h
  case ldxSp2 => exact execEffect_ldxSp2 h
  case stxSp2 => exact execEffect_stxSp2 h
  case subSp1 => exact execEffect_subSp1 h
  case cmpSp1 => exact execEffect_cmpSp1 h
  case sbcSp1 => exact execEffect_sbcSp1 h
  case cpxSp1 => exact execEffect_cpxSp1 h
  case andSp1 => exact execEffect_andSp1 h
  case bitSp1 => exact execEffect_bitSp1 h
  case ldaSp1 => exact execEffect_ldaSp1 h
  case staSp1 => exact execEffect_staSp1 h
  case eorSp1 => exact execEffect_eorSp1 h
  case adcSp1 => exact execEffect_adcSp1 h
  case oraSp1 => exact execEffect_oraSp1 h
  case addSp1 => exact execEffect_addSp1 h
  case ldxSp1 => exact execEffect_ldxSp1 h
  case stxSp1 => exact execEffect_stxSp1 h
  case illegalPage2 => exact execEffect_illegalPage2 h

end Sys2Proof.Machine
end

