-- ==== Sys2Proof/Laws/PerInstr.lean ====
section
/-! SUPPORT. The statement made of every instruction: its encoding takes one to four bytes (spec/30_encoding.md R80, R81). -/

namespace Sys2Proof.Laws

/-- An instruction takes one to four bytes. -/
def EncodeLength.Statement (i : Instr) : Prop := 1 ≤ i.length ∧ i.length ≤ 4

theorem EncodeLength.brset (n : BitVec 3) (dd : Byte) (rr : Byte) : EncodeLength.Statement (.brset n dd rr) := ⟨Nat.le_of_ble_eq_true rfl, Nat.le_of_ble_eq_true rfl⟩
theorem EncodeLength.brclr (n : BitVec 3) (dd : Byte) (rr : Byte) : EncodeLength.Statement (.brclr n dd rr) := ⟨Nat.le_of_ble_eq_true rfl, Nat.le_of_ble_eq_true rfl⟩
theorem EncodeLength.bset (n : BitVec 3) (dd : Byte) : EncodeLength.Statement (.bset n dd) := ⟨Nat.le_of_ble_eq_true rfl, Nat.le_of_ble_eq_true rfl⟩
theorem EncodeLength.bclr (n : BitVec 3) (dd : Byte) : EncodeLength.Statement (.bclr n dd) := ⟨Nat.le_of_ble_eq_true rfl, Nat.le_of_ble_eq_true rfl⟩
theorem EncodeLength.bra (rr : Byte) : EncodeLength.Statement (.bra rr) := ⟨Nat.le_of_ble_eq_true rfl, Nat.le_of_ble_eq_true rfl⟩
theorem EncodeLength.brn (rr : Byte) : EncodeLength.Statement (.brn rr) := ⟨Nat.le_of_ble_eq_true rfl, Nat.le_of_ble_eq_true rfl⟩
theorem EncodeLength.bhi (rr : Byte) : EncodeLength.Statement (.bhi rr) := ⟨Nat.le_of_ble_eq_true rfl, Nat.le_of_ble_eq_true rfl⟩
theorem EncodeLength.bls (rr : Byte) : EncodeLength.Statement (.bls rr) := ⟨Nat.le_of_ble_eq_true rfl, Nat.le_of_ble_eq_true rfl⟩
theorem EncodeLength.bcc (rr : Byte) : EncodeLength.Statement (.bcc rr) := ⟨Nat.le_of_ble_eq_true rfl, Nat.le_of_ble_eq_true rfl⟩
theorem EncodeLength.bcs (rr : Byte) : EncodeLength.Statement (.bcs rr) := ⟨Nat.le_of_ble_eq_true rfl, Nat.le_of_ble_eq_true rfl⟩
theorem EncodeLength.bne (rr : Byte) : EncodeLength.Statement (.bne rr) := ⟨Nat.le_of_ble_eq_true rfl, Nat.le_of_ble_eq_true rfl⟩
theorem EncodeLength.beq (rr : Byte) : EncodeLength.Statement (.beq rr) := ⟨Nat.le_of_ble_eq_true rfl, Nat.le_of_ble_eq_true rfl⟩
theorem EncodeLength.bhcc (rr : Byte) : EncodeLength.Statement (.bhcc rr) := ⟨Nat.le_of_ble_eq_true rfl, Nat.le_of_ble_eq_true rfl⟩
theorem EncodeLength.bhcs (rr : Byte) : EncodeLength.Statement (.bhcs rr) := ⟨Nat.le_of_ble_eq_true rfl, Nat.le_of_ble_eq_true rfl⟩
theorem EncodeLength.bpl (rr : Byte) : EncodeLength.Statement (.bpl rr) := ⟨Nat.le_of_ble_eq_true rfl, Nat.le_of_ble_eq_true rfl⟩
theorem EncodeLength.bmi (rr : Byte) : EncodeLength.Statement (.bmi rr) := ⟨Nat.le_of_ble_eq_true rfl, Nat.le_of_ble_eq_true rfl⟩
theorem EncodeLength.bmc (rr : Byte) : EncodeLength.Statement (.bmc rr) := ⟨Nat.le_of_ble_eq_true rfl, Nat.le_of_ble_eq_true rfl⟩
theorem EncodeLength.bms (rr : Byte) : EncodeLength.Statement (.bms rr) := ⟨Nat.le_of_ble_eq_true rfl, Nat.le_of_ble_eq_true rfl⟩
theorem EncodeLength.bil (rr : Byte) : EncodeLength.Statement (.bil rr) := ⟨Nat.le_of_ble_eq_true rfl, Nat.le_of_ble_eq_true rfl⟩
theorem EncodeLength.bih (rr : Byte) : EncodeLength.Statement (.bih rr) := ⟨Nat.le_of_ble_eq_true rfl, Nat.le_of_ble_eq_true rfl⟩
theorem EncodeLength.negDir (dd : Byte) : EncodeLength.Statement (.negDir dd) := ⟨Nat.le_of_ble_eq_true rfl, Nat.le_of_ble_eq_true rfl⟩
theorem EncodeLength.cbeqDir (dd : Byte) (rr : Byte) : EncodeLength.Statement (.cbeqDir dd rr) := ⟨Nat.le_of_ble_eq_true rfl, Nat.le_of_ble_eq_true rfl⟩
theorem EncodeLength.illegal32 : EncodeLength.Statement .illegal32 := ⟨Nat.le_of_ble_eq_true rfl, Nat.le_of_ble_eq_true rfl⟩
theorem EncodeLength.comDir (dd : Byte) : EncodeLength.Statement (.comDir dd) := ⟨Nat.le_of_ble_eq_true rfl, Nat.le_of_ble_eq_true rfl⟩
theorem EncodeLength.lsrDir (dd : Byte) : EncodeLength.Statement (.lsrDir dd) := ⟨Nat.le_of_ble_eq_true rfl, Nat.le_of_ble_eq_true rfl⟩
theorem EncodeLength.sthx (dd : Byte) : EncodeLength.Statement (.sthx dd) := ⟨Nat.le_of_ble_eq_true rfl, Nat.le_of_ble_eq_true rfl⟩
theorem EncodeLength.rorDir (dd : Byte) : EncodeLength.Statement (.rorDir dd) := ⟨Nat.le_of_ble_eq_true rfl, Nat.le_of_ble_eq_true rfl⟩
theorem EncodeLength.asrDir (dd : Byte) : EncodeLength.Statement (.asrDir dd) := ⟨Nat.le_of_ble_eq_true rfl, Nat.le_of_ble_eq_true rfl⟩
theorem EncodeLength.lslDir (dd : Byte) : EncodeLength.Statement (.lslDir dd) := ⟨Nat.le_of_ble_eq_true rfl, Nat.le_of_ble_eq_true rfl⟩
theorem EncodeLength.rolDir (dd : Byte) : EncodeLength.Statement (.rolDir dd) := ⟨Nat.le_of_ble_eq_true rfl, Nat.le_of_ble_eq_true rfl⟩
theorem EncodeLength.decDir (dd : Byte) : EncodeLength.Statement (.decDir dd) := ⟨Nat.le_of_ble_eq_true rfl, Nat.le_of_ble_eq_true rfl⟩
theorem EncodeLength.dbnzDir (dd : Byte) (rr : Byte) : EncodeLength.Statement (.dbnzDir dd rr) := ⟨Nat.le_of_ble_eq_true rfl, Nat.le_of_ble_eq_true rfl⟩
theorem EncodeLength.incDir (dd : Byte) : EncodeLength.Statement (.incDir dd) := ⟨Nat.le_of_ble_eq_true rfl, Nat.le_of_ble_eq_true rfl⟩
theorem EncodeLength.tstDir (dd : Byte) : EncodeLength.Statement (.tstDir dd) := ⟨Nat.le_of_ble_eq_true rfl, Nat.le_of_ble_eq_true rfl⟩
theorem EncodeLength.illegal3E : EncodeLength.Statement .illegal3E := ⟨Nat.le_of_ble_eq_true rfl, Nat.le_of_ble_eq_true rfl⟩
theorem EncodeLength.clrDir (dd : Byte) : EncodeLength.Statement (.clrDir dd) := ⟨Nat.le_of_ble_eq_true rfl, Nat.le_of_ble_eq_true rfl⟩
theorem EncodeLength.nega : EncodeLength.Statement .nega := ⟨Nat.le_of_ble_eq_true rfl, Nat.le_of_ble_eq_true rfl⟩
theorem EncodeLength.cbeqa (ii : Byte) (rr : Byte) : EncodeLength.Statement (.cbeqa ii rr) := ⟨Nat.le_of_ble_eq_true rfl, Nat.le_of_ble_eq_true rfl⟩
theorem EncodeLength.mul : EncodeLength.Statement .mul := ⟨Nat.le_of_ble_eq_true rfl, Nat.le_of_ble_eq_true rfl⟩
theorem EncodeLength.coma : EncodeLength.Statement .coma := ⟨Nat.le_of_ble_eq_true rfl, Nat.le_of_ble_eq_true rfl⟩
theorem EncodeLength.lsra : EncodeLength.Statement .lsra := ⟨Nat.le_of_ble_eq_true rfl, Nat.le_of_ble_eq_true rfl⟩
theorem EncodeLength.ldhxImm (jjkk : Word) : EncodeLength.Statement (.ldhxImm jjkk) := ⟨Nat.le_of_ble_eq_true rfl, Nat.le_of_ble_eq_true rfl⟩
theorem EncodeLength.rora : EncodeLength.Statement .rora := ⟨Nat.le_of_ble_eq_true rfl, Nat.le_of_ble_eq_true rfl⟩
theorem EncodeLength.asra : EncodeLength.Statement .asra := ⟨Nat.le_of_ble_eq_true rfl, Nat.le_of_ble_eq_true rfl⟩
theorem EncodeLength.lsla : EncodeLength.Statement .lsla := ⟨Nat.le_of_ble_eq_true rfl, Nat.le_of_ble_eq_true rfl⟩
theorem EncodeLength.rola : EncodeLength.Statement .rola := ⟨Nat.le_of_ble_eq_true rfl, Nat.le_of_ble_eq_true rfl⟩
theorem EncodeLength.deca : EncodeLength.Statement .deca := ⟨Nat.le_of_ble_eq_true rfl, Nat.le_of_ble_eq_true rfl⟩
theorem EncodeLength.dbnza (rr : Byte) : EncodeLength.Statement (.dbnza rr) := ⟨Nat.le_of_ble_eq_true rfl, Nat.le_of_ble_eq_true rfl⟩
theorem EncodeLength.inca : EncodeLength.Statement .inca := ⟨Nat.le_of_ble_eq_true rfl, Nat.le_of_ble_eq_true rfl⟩
theorem EncodeLength.tsta : EncodeLength.Statement .tsta := ⟨Nat.le_of_ble_eq_true rfl, Nat.le_of_ble_eq_true rfl⟩
theorem EncodeLength.movDd (ss : Byte) (dd : Byte) : EncodeLength.Statement (.movDd ss dd) := ⟨Nat.le_of_ble_eq_true rfl, Nat.le_of_ble_eq_true rfl⟩
theorem EncodeLength.clra : EncodeLength.Statement .clra := ⟨Nat.le_of_ble_eq_true rfl, Nat.le_of_ble_eq_true rfl⟩
theorem EncodeLength.negx : EncodeLength.Statement .negx := ⟨Nat.le_of_ble_eq_true rfl, Nat.le_of_ble_eq_true rfl⟩
theorem EncodeLength.cbeqx (ii : Byte) (rr : Byte) : EncodeLength.Statement (.cbeqx ii rr) := ⟨Nat.le_of_ble_eq_true rfl, Nat.le_of_ble_eq_true rfl⟩
theorem EncodeLength.div : EncodeLength.Statement .div := ⟨Nat.le_of_ble_eq_true rfl, Nat.le_of_ble_eq_true rfl⟩
theorem EncodeLength.comx : EncodeLength.Statement .comx := ⟨Nat.le_of_ble_eq_true rfl, Nat.le_of_ble_eq_true rfl⟩
theorem EncodeLength.lsrx : EncodeLength.Statement .lsrx := ⟨Nat.le_of_ble_eq_true rfl, Nat.le_of_ble_eq_true rfl⟩
theorem EncodeLength.ldhxDir (dd : Byte) : EncodeLength.Statement (.ldhxDir dd) := ⟨Nat.le_of_ble_eq_true rfl, Nat.le_of_ble_eq_true rfl⟩
theorem EncodeLength.rorx : EncodeLength.Statement .rorx := ⟨Nat.le_of_ble_eq_true rfl, Nat.le_of_ble_eq_true rfl⟩
theorem EncodeLength.asrx : EncodeLength.Statement .asrx := ⟨Nat.le_of_ble_eq_true rfl, Nat.le_of_ble_eq_true rfl⟩
theorem EncodeLength.lslx : EncodeLength.Statement .lslx := ⟨Nat.le_of_ble_eq_true rfl, Nat.le_of_ble_eq_true rfl⟩
theorem EncodeLength.rolx : EncodeLength.Statement .rolx := ⟨Nat.le_of_ble_eq_true rfl, Nat.le_of_ble_eq_true rfl⟩
theorem EncodeLength.decx : EncodeLength.Statement .decx := ⟨Nat.le_of_ble_eq_true rfl, Nat.le_of_ble_eq_true rfl⟩
theorem EncodeLength.dbnzx (rr : Byte) : EncodeLength.Statement (.dbnzx rr) := ⟨Nat.le_of_ble_eq_true rfl, Nat.le_of_ble_eq_true rfl⟩
theorem EncodeLength.incx : EncodeLength.Statement .incx := ⟨Nat.le_of_ble_eq_true rfl, Nat.le_of_ble_eq_true rfl⟩
theorem EncodeLength.tstx : EncodeLength.Statement .tstx := ⟨Nat.le_of_ble_eq_true rfl, Nat.le_of_ble_eq_true rfl⟩
theorem EncodeLength.movDixPlus (ss : Byte) : EncodeLength.Statement (.movDixPlus ss) := ⟨Nat.le_of_ble_eq_true rfl, Nat.le_of_ble_eq_true rfl⟩
theorem EncodeLength.clrx : EncodeLength.Statement .clrx := ⟨Nat.le_of_ble_eq_true rfl, Nat.le_of_ble_eq_true rfl⟩
theorem EncodeLength.negIx1 (ff : Byte) : EncodeLength.Statement (.negIx1 ff) := ⟨Nat.le_of_ble_eq_true rfl, Nat.le_of_ble_eq_true rfl⟩
theorem EncodeLength.cbeqIx1Plus (ff : Byte) (rr : Byte) : EncodeLength.Statement (.cbeqIx1Plus ff rr) := ⟨Nat.le_of_ble_eq_true rfl, Nat.le_of_ble_eq_true rfl⟩
theorem EncodeLength.nsa : EncodeLength.Statement .nsa := ⟨Nat.le_of_ble_eq_true rfl, Nat.le_of_ble_eq_true rfl⟩
theorem EncodeLength.comIx1 (ff : Byte) : EncodeLength.Statement (.comIx1 ff) := ⟨Nat.le_of_ble_eq_true rfl, Nat.le_of_ble_eq_true rfl⟩
theorem EncodeLength.lsrIx1 (ff : Byte) : EncodeLength.Statement (.lsrIx1 ff) := ⟨Nat.le_of_ble_eq_true rfl, Nat.le_of_ble_eq_true rfl⟩
theorem EncodeLength.cphxImm (jjkk : Word) : EncodeLength.Statement (.cphxImm jjkk) := ⟨Nat.le_of_ble_eq_true rfl, Nat.le_of_ble_eq_true rfl⟩
theorem EncodeLength.rorIx1 (ff : Byte) : EncodeLength.Statement (.rorIx1 ff) := ⟨Nat.le_of_ble_eq_true rfl, Nat.le_of_ble_eq_true rfl⟩
theorem EncodeLength.asrIx1 (ff : Byte) : EncodeLength.Statement (.asrIx1 ff) := ⟨Nat.le_of_ble_eq_true rfl, Nat.le_of_ble_eq_true rfl⟩
theorem EncodeLength.lslIx1 (ff : Byte) : EncodeLength.Statement (.lslIx1 ff) := ⟨Nat.le_of_ble_eq_true rfl, Nat.le_of_ble_eq_true rfl⟩
theorem EncodeLength.rolIx1 (ff : Byte) : EncodeLength.Statement (.rolIx1 ff) := ⟨Nat.le_of_ble_eq_true rfl, Nat.le_of_ble_eq_true rfl⟩
theorem EncodeLength.decIx1 (ff : Byte) : EncodeLength.Statement (.decIx1 ff) := ⟨Nat.le_of_ble_eq_true rfl, Nat.le_of_ble_eq_true rfl⟩
theorem EncodeLength.dbnzIx1 (ff : Byte) (rr : Byte) : EncodeLength.Statement (.dbnzIx1 ff rr) := ⟨Nat.le_of_ble_eq_true rfl, Nat.le_of_ble_eq_true rfl⟩
theorem EncodeLength.incIx1 (ff : Byte) : EncodeLength.Statement (.incIx1 ff) := ⟨Nat.le_of_ble_eq_true rfl, Nat.le_of_ble_eq_true rfl⟩
theorem EncodeLength.tstIx1 (ff : Byte) : EncodeLength.Statement (.tstIx1 ff) := ⟨Nat.le_of_ble_eq_true rfl, Nat.le_of_ble_eq_true rfl⟩
theorem EncodeLength.movImd (ii : Byte) (dd : Byte) : EncodeLength.Statement (.movImd ii dd) := ⟨Nat.le_of_ble_eq_true rfl, Nat.le_of_ble_eq_true rfl⟩
theorem EncodeLength.clrIx1 (ff : Byte) : EncodeLength.Statement (.clrIx1 ff) := ⟨Nat.le_of_ble_eq_true rfl, Nat.le_of_ble_eq_true rfl⟩
theorem EncodeLength.negIx : EncodeLength.Statement .negIx := ⟨Nat.le_of_ble_eq_true rfl, Nat.le_of_ble_eq_true rfl⟩
theorem EncodeLength.cbeqIxPlus (rr : Byte) : EncodeLength.Statement (.cbeqIxPlus rr) := ⟨Nat.le_of_ble_eq_true rfl, Nat.le_of_ble_eq_true rfl⟩
theorem EncodeLength.daa : EncodeLength.Statement .daa := ⟨Nat.le_of_ble_eq_true rfl, Nat.le_of_ble_eq_true rfl⟩
theorem EncodeLength.comIx : EncodeLength.Statement .comIx := ⟨Nat.le_of_ble_eq_true rfl, Nat.le_of_ble_eq_true rfl⟩
theorem EncodeLength.lsrIx : EncodeLength.Statement .lsrIx := ⟨Nat.le_of_ble_eq_true rfl, Nat.le_of_ble_eq_true rfl⟩
theorem EncodeLength.cphxDir (dd : Byte) : EncodeLength.Statement (.cphxDir dd) := ⟨Nat.le_of_ble_eq_true rfl, Nat.le_of_ble_eq_true rfl⟩
theorem EncodeLength.rorIx : EncodeLength.Statement .rorIx := ⟨Nat.le_of_ble_eq_true rfl, Nat.le_of_ble_eq_true rfl⟩
theorem EncodeLength.asrIx : EncodeLength.Statement .asrIx := ⟨Nat.le_of_ble_eq_true rfl, Nat.le_of_ble_eq_true rfl⟩
theorem EncodeLength.lslIx : EncodeLength.Statement .lslIx := ⟨Nat.le_of_ble_eq_true rfl, Nat.le_of_ble_eq_true rfl⟩
theorem EncodeLength.rolIx : EncodeLength.Statement .rolIx := ⟨Nat.le_of_ble_eq_true rfl, Nat.le_of_ble_eq_true rfl⟩
theorem EncodeLength.decIx : EncodeLength.Statement .decIx := ⟨Nat.le_of_ble_eq_true rfl, Nat.le_of_ble_eq_true rfl⟩
theorem EncodeLength.dbnzIx (rr : Byte) : EncodeLength.Statement (.dbnzIx rr) := ⟨Nat.le_of_ble_eq_true rfl, Nat.le_of_ble_eq_true rfl⟩
theorem EncodeLength.incIx : EncodeLength.Statement .incIx := ⟨Nat.le_of_ble_eq_true rfl, Nat.le_of_ble_eq_true rfl⟩
theorem EncodeLength.tstIx : EncodeLength.Statement .tstIx := ⟨Nat.le_of_ble_eq_true rfl, Nat.le_of_ble_eq_true rfl⟩
theorem EncodeLength.movIxPlusD (dd : Byte) : EncodeLength.Statement (.movIxPlusD dd) := ⟨Nat.le_of_ble_eq_true rfl, Nat.le_of_ble_eq_true rfl⟩
theorem EncodeLength.clrIx : EncodeLength.Statement .clrIx := ⟨Nat.le_of_ble_eq_true rfl, Nat.le_of_ble_eq_true rfl⟩
theorem EncodeLength.rti : EncodeLength.Statement .rti := ⟨Nat.le_of_ble_eq_true rfl, Nat.le_of_ble_eq_true rfl⟩
theorem EncodeLength.rts : EncodeLength.Statement .rts := ⟨Nat.le_of_ble_eq_true rfl, Nat.le_of_ble_eq_true rfl⟩
theorem EncodeLength.illegal82 : EncodeLength.Statement .illegal82 := ⟨Nat.le_of_ble_eq_true rfl, Nat.le_of_ble_eq_true rfl⟩
theorem EncodeLength.swi : EncodeLength.Statement .swi := ⟨Nat.le_of_ble_eq_true rfl, Nat.le_of_ble_eq_true rfl⟩
theorem EncodeLength.tap : EncodeLength.Statement .tap := ⟨Nat.le_of_ble_eq_true rfl, Nat.le_of_ble_eq_true rfl⟩
theorem EncodeLength.tpa : EncodeLength.Statement .tpa := ⟨Nat.le_of_ble_eq_true rfl, Nat.le_of_ble_eq_true rfl⟩
theorem EncodeLength.pula : EncodeLength.Statement .pula := ⟨Nat.le_of_ble_eq_true rfl, Nat.le_of_ble_eq_true rfl⟩
theorem EncodeLength.psha : EncodeLength.Statement .psha := ⟨Nat.le_of_ble_eq_true rfl, Nat.le_of_ble_eq_true rfl⟩
theorem EncodeLength.pulx : EncodeLength.Statement .pulx := ⟨Nat.le_of_ble_eq_true rfl, Nat.le_of_ble_eq_true rfl⟩
theorem EncodeLength.pshx : EncodeLength.Statement .pshx := ⟨Nat.le_of_ble_eq_true rfl, Nat.le_of_ble_eq_true rfl⟩
theorem EncodeLength.pulh : EncodeLength.Statement .pulh := ⟨Nat.le_of_ble_eq_true rfl, Nat.le_of_ble_eq_true rfl⟩
theorem EncodeLength.pshh : EncodeLength.Statement .pshh := ⟨Nat.le_of_ble_eq_true rfl, Nat.le_of_ble_eq_true rfl⟩
theorem EncodeLength.clrh : EncodeLength.Statement .clrh := ⟨Nat.le_of_ble_eq_true rfl, Nat.le_of_ble_eq_true rfl⟩
theorem EncodeLength.illegal8D : EncodeLength.Statement .illegal8D := ⟨Nat.le_of_ble_eq_true rfl, Nat.le_of_ble_eq_true rfl⟩
theorem EncodeLength.stop : EncodeLength.Statement .stop := ⟨Nat.le_of_ble_eq_true rfl, Nat.le_of_ble_eq_true rfl⟩
theorem EncodeLength.wait : EncodeLength.Statement .wait := ⟨Nat.le_of_ble_eq_true rfl, Nat.le_of_ble_eq_true rfl⟩
theorem EncodeLength.bge (rr : Byte) : EncodeLength.Statement (.bge rr) := ⟨Nat.le_of_ble_eq_true rfl, Nat.le_of_ble_eq_true rfl⟩
theorem EncodeLength.blt (rr : Byte) : EncodeLength.Statement (.blt rr) := ⟨Nat.le_of_ble_eq_true rfl, Nat.le_of_ble_eq_true rfl⟩
theorem EncodeLength.bgt (rr : Byte) : EncodeLength.Statement (.bgt rr) := ⟨Nat.le_of_ble_eq_true rfl, Nat.le_of_ble_eq_true rfl⟩
theorem EncodeLength.ble (rr : Byte) : EncodeLength.Statement (.ble rr) := ⟨Nat.le_of_ble_eq_true rfl, Nat.le_of_ble_eq_true rfl⟩
theorem EncodeLength.txs : EncodeLength.Statement .txs := ⟨Nat.le_of_ble_eq_true rfl, Nat.le_of_ble_eq_true rfl⟩
theorem EncodeLength.tsx : EncodeLength.Statement .tsx := ⟨Nat.le_of_ble_eq_true rfl, Nat.le_of_ble_eq_true rfl⟩
theorem EncodeLength.illegal96 : EncodeLength.Statement .illegal96 := ⟨Nat.le_of_ble_eq_true rfl, Nat.le_of_ble_eq_true rfl⟩
theorem EncodeLength.tax : EncodeLength.Statement .tax := ⟨Nat.le_of_ble_eq_true rfl, Nat.le_of_ble_eq_true rfl⟩
theorem EncodeLength.clc : EncodeLength.Statement .clc := ⟨Nat.le_of_ble_eq_true rfl, Nat.le_of_ble_eq_true rfl⟩
theorem EncodeLength.sec : EncodeLength.Statement .sec := ⟨Nat.le_of_ble_eq_true rfl, Nat.le_of_ble_eq_true rfl⟩
theorem EncodeLength.cli : EncodeLength.Statement .cli := ⟨Nat.le_of_ble_eq_true rfl, Nat.le_of_ble_eq_true rfl⟩
theorem EncodeLength.sei : EncodeLength.Statement .sei := ⟨Nat.le_of_ble_eq_true rfl, Nat.le_of_ble_eq_true rfl⟩
theorem EncodeLength.rsp : EncodeLength.Statement .rsp := ⟨Nat.le_of_ble_eq_true rfl, Nat.le_of_ble_eq_true rfl⟩
theorem EncodeLength.nop : EncodeLength.Statement .nop := ⟨Nat.le_of_ble_eq_true rfl, Nat.le_of_ble_eq_true rfl⟩
theorem EncodeLength.page2Prefix : EncodeLength.Statement .page2Prefix := ⟨Nat.le_of_ble_eq_true rfl, Nat.le_of_ble_eq_true rfl⟩
theorem EncodeLength.txa : EncodeLength.Statement .txa := ⟨Nat.le_of_ble_eq_true rfl, Nat.le_of_ble_eq_true rfl⟩
theorem EncodeLength.subImm (ii : Byte) : EncodeLength.Statement (.subImm ii) := ⟨Nat.le_of_ble_eq_true rfl, Nat.le_of_ble_eq_true rfl⟩
theorem EncodeLength.cmpImm (ii : Byte) : EncodeLength.Statement (.cmpImm ii) := ⟨Nat.le_of_ble_eq_true rfl, Nat.le_of_ble_eq_true rfl⟩
theorem EncodeLength.sbcImm (ii : Byte) : EncodeLength.Statement (.sbcImm ii) := ⟨Nat.le_of_ble_eq_true rfl, Nat.le_of_ble_eq_true rfl⟩
theorem EncodeLength.cpxImm (ii : Byte) : EncodeLength.Statement (.cpxImm ii) := ⟨Nat.le_of_ble_eq_true rfl, Nat.le_of_ble_eq_true rfl⟩
theorem EncodeLength.andImm (ii : Byte) : EncodeLength.Statement (.andImm ii) := ⟨Nat.le_of_ble_eq_true rfl, Nat.le_of_ble_eq_true rfl⟩
theorem EncodeLength.bitImm (ii : Byte) : EncodeLength.Statement (.bitImm ii) := ⟨Nat.le_of_ble_eq_true rfl, Nat.le_of_ble_eq_true rfl⟩
theorem EncodeLength.ldaImm (ii : Byte) : EncodeLength.Statement (.ldaImm ii) := ⟨Nat.le_of_ble_eq_true rfl, Nat.le_of_ble_eq_true rfl⟩
theorem EncodeLength.ais (ii : Byte) : EncodeLength.Statement (.ais ii) := ⟨Nat.le_of_ble_eq_true rfl, Nat.le_of_ble_eq_true rfl⟩
theorem EncodeLength.eorImm (ii : Byte) : EncodeLength.Statement (.eorImm ii) := ⟨Nat.le_of_ble_eq_true rfl, Nat.le_of_ble_eq_true rfl⟩
theorem EncodeLength.adcImm (ii : Byte) : EncodeLength.Statement (.adcImm ii) := ⟨Nat.le_of_ble_eq_true rfl, Nat.le_of_ble_eq_true rfl⟩
theorem EncodeLength.oraImm (ii : Byte) : EncodeLength.Statement (.oraImm ii) := ⟨Nat.le_of_ble_eq_true rfl, Nat.le_of_ble_eq_true rfl⟩
theorem EncodeLength.addImm (ii : Byte) : EncodeLength.Statement (.addImm ii) := ⟨Nat.le_of_ble_eq_true rfl, Nat.le_of_ble_eq_true rfl⟩
theorem EncodeLength.illegalAC : EncodeLength.Statement .illegalAC := ⟨Nat.le_of_ble_eq_true rfl, Nat.le_of_ble_eq_true rfl⟩
theorem EncodeLength.bsr (rr : Byte) : EncodeLength.Statement (.bsr rr) := ⟨Nat.le_of_ble_eq_true rfl, Nat.le_of_ble_eq_true rfl⟩
theorem EncodeLength.ldxImm (ii : Byte) : EncodeLength.Statement (.ldxImm ii) := ⟨Nat.le_of_ble_eq_true rfl, Nat.le_of_ble_eq_true rfl⟩
theorem EncodeLength.aix (ii : Byte) : EncodeLength.Statement (.aix ii) := ⟨Nat.le_of_ble_eq_true rfl, Nat.le_of_ble_eq_true rfl⟩
theorem EncodeLength.subDir (dd : Byte) : EncodeLength.Statement (.subDir dd) := ⟨Nat.le_of_ble_eq_true rfl, Nat.le_of_ble_eq_true rfl⟩
theorem EncodeLength.cmpDir (dd : Byte) : EncodeLength.Statement (.cmpDir dd) := ⟨Nat.le_of_ble_eq_true rfl, Nat.le_of_ble_eq_true rfl⟩
theorem EncodeLength.sbcDir (dd : Byte) : EncodeLength.Statement (.sbcDir dd) := ⟨Nat.le_of_ble_eq_true rfl, Nat.le_of_ble_eq_true rfl⟩
theorem EncodeLength.cpxDir (dd : Byte) : EncodeLength.Statement (.cpxDir dd) := ⟨Nat.le_of_ble_eq_true rfl, Nat.le_of_ble_eq_true rfl⟩
theorem EncodeLength.andDir (dd : Byte) : EncodeLength.Statement (.andDir dd) := ⟨Nat.le_of_ble_eq_true rfl, Nat.le_of_ble_eq_true rfl⟩
theorem EncodeLength.bitDir (dd : Byte) : EncodeLength.Statement (.bitDir dd) := ⟨Nat.le_of_ble_eq_true rfl, Nat.le_of_ble_eq_true rfl⟩
theorem EncodeLength.ldaDir (dd : Byte) : EncodeLength.Statement (.ldaDir dd) := ⟨Nat.le_of_ble_eq_true rfl, Nat.le_of_ble_eq_true rfl⟩
theorem EncodeLength.staDir (dd : Byte) : EncodeLength.Statement (.staDir dd) := ⟨Nat.le_of_ble_eq_true rfl, Nat.le_of_ble_eq_true rfl⟩
theorem EncodeLength.eorDir (dd : Byte) : EncodeLength.Statement (.eorDir dd) := ⟨Nat.le_of_ble_eq_true rfl, Nat.le_of_ble_eq_true rfl⟩
theorem EncodeLength.adcDir (dd : Byte) : EncodeLength.Statement (.adcDir dd) := ⟨Nat.le_of_ble_eq_true rfl, Nat.le_of_ble_eq_true rfl⟩
theorem EncodeLength.oraDir (dd : Byte) : EncodeLength.Statement (.oraDir dd) := ⟨Nat.le_of_ble_eq_true rfl, Nat.le_of_ble_eq_true rfl⟩
theorem EncodeLength.addDir (dd : Byte) : EncodeLength.Statement (.addDir dd) := ⟨Nat.le_of_ble_eq_true rfl, Nat.le_of_ble_eq_true rfl⟩
theorem EncodeLength.jmpDir (dd : Byte) : EncodeLength.Statement (.jmpDir dd) := ⟨Nat.le_of_ble_eq_true rfl, Nat.le_of_ble_eq_true rfl⟩
theorem EncodeLength.jsrDir (dd : Byte) : EncodeLength.Statement (.jsrDir dd) := ⟨Nat.le_of_ble_eq_true rfl, Nat.le_of_ble_eq_true rfl⟩
theorem EncodeLength.ldxDir (dd : Byte) : EncodeLength.Statement (.ldxDir dd) := ⟨Nat.le_of_ble_eq_true rfl, Nat.le_of_ble_eq_true rfl⟩
theorem EncodeLength.stxDir (dd : Byte) : EncodeLength.Statement (.stxDir dd) := ⟨Nat.le_of_ble_eq_true rfl, Nat.le_of_ble_eq_true rfl⟩
theorem EncodeLength.subExt (hhll : Word) : EncodeLength.Statement (.subExt hhll) := ⟨Nat.le_of_ble_eq_true rfl, Nat.le_of_ble_eq_true rfl⟩
theorem EncodeLength.cmpExt (hhll : Word) : EncodeLength.Statement (.cmpExt hhll) := ⟨Nat.le_of_ble_eq_true rfl, Nat.le_of_ble_eq_true rfl⟩
theorem EncodeLength.sbcExt (hhll : Word) : EncodeLength.Statement (.sbcExt hhll) := ⟨Nat.le_of_ble_eq_true rfl, Nat.le_of_ble_eq_true rfl⟩
theorem EncodeLength.cpxExt (hhll : Word) : EncodeLength.Statement (.cpxExt hhll) := ⟨Nat.le_of_ble_eq_true rfl, Nat.le_of_ble_eq_true rfl⟩
theorem EncodeLength.andExt (hhll : Word) : EncodeLength.Statement (.andExt hhll) := ⟨Nat.le_of_ble_eq_true rfl, Nat.le_of_ble_eq_true rfl⟩
theorem EncodeLength.bitExt (hhll : Word) : EncodeLength.Statement (.bitExt hhll) := ⟨Nat.le_of_ble_eq_true rfl, Nat.le_of_ble_eq_true rfl⟩
theorem EncodeLength.ldaExt (hhll : Word) : EncodeLength.Statement (.ldaExt hhll) := ⟨Nat.le_of_ble_eq_true rfl, Nat.le_of_ble_eq_true rfl⟩
theorem EncodeLength.staExt (hhll : Word) : EncodeLength.Statement (.staExt hhll) := ⟨Nat.le_of_ble_eq_true rfl, Nat.le_of_ble_eq_true rfl⟩
theorem EncodeLength.eorExt (hhll : Word) : EncodeLength.Statement (.eorExt hhll) := ⟨Nat.le_of_ble_eq_true rfl, Nat.le_of_ble_eq_true rfl⟩
theorem EncodeLength.adcExt (hhll : Word) : EncodeLength.Statement (.adcExt hhll) := ⟨Nat.le_of_ble_eq_true rfl, Nat.le_of_ble_eq_true rfl⟩
theorem EncodeLength.oraExt (hhll : Word) : EncodeLength.Statement (.oraExt hhll) := ⟨Nat.le_of_ble_eq_true rfl, Nat.le_of_ble_eq_true rfl⟩
theorem EncodeLength.addExt (hhll : Word) : EncodeLength.Statement (.addExt hhll) := ⟨Nat.le_of_ble_eq_true rfl, Nat.le_of_ble_eq_true rfl⟩
theorem EncodeLength.jmpExt (hhll : Word) : EncodeLength.Statement (.jmpExt hhll) := ⟨Nat.le_of_ble_eq_true rfl, Nat.le_of_ble_eq_true rfl⟩
theorem EncodeLength.jsrExt (hhll : Word) : EncodeLength.Statement (.jsrExt hhll) := ⟨Nat.le_of_ble_eq_true rfl, Nat.le_of_ble_eq_true rfl⟩
theorem EncodeLength.ldxExt (hhll : Word) : EncodeLength.Statement (.ldxExt hhll) := ⟨Nat.le_of_ble_eq_true rfl, Nat.le_of_ble_eq_true rfl⟩
theorem EncodeLength.stxExt (hhll : Word) : EncodeLength.Statement (.stxExt hhll) := ⟨Nat.le_of_ble_eq_true rfl, Nat.le_of_ble_eq_true rfl⟩
theorem EncodeLength.subIx2 (eeff : Word) : EncodeLength.Statement (.subIx2 eeff) := ⟨Nat.le_of_ble_eq_true rfl, Nat.le_of_ble_eq_true rfl⟩
theorem EncodeLength.cmpIx2 (eeff : Word) : EncodeLength.Statement (.cmpIx2 eeff) := ⟨Nat.le_of_ble_eq_true rfl, Nat.le_of_ble_eq_true rfl⟩
theorem EncodeLength.sbcIx2 (eeff : Word) : EncodeLength.Statement (.sbcIx2 eeff) := ⟨Nat.le_of_ble_eq_true rfl, Nat.le_of_ble_eq_true rfl⟩
theorem EncodeLength.cpxIx2 (eeff : Word) : EncodeLength.Statement (.cpxIx2 eeff) := ⟨Nat.le_of_ble_eq_true rfl, Nat.le_of_ble_eq_true rfl⟩
theorem EncodeLength.andIx2 (eeff : Word) : EncodeLength.Statement (.andIx2 eeff) := ⟨Nat.le_of_ble_eq_true rfl, Nat.le_of_ble_eq_true rfl⟩
theorem EncodeLength.bitIx2 (eeff : Word) : EncodeLength.Statement (.bitIx2 eeff) := ⟨Nat.le_of_ble_eq_true rfl, Nat.le_of_ble_eq_true rfl⟩
theorem EncodeLength.ldaIx2 (eeff : Word) : EncodeLength.Statement (.ldaIx2 eeff) := ⟨Nat.le_of_ble_eq_true rfl, Nat.le_of_ble_eq_true rfl⟩
theorem EncodeLength.staIx2 (eeff : Word) : EncodeLength.Statement (.staIx2 eeff) := ⟨Nat.le_of_ble_eq_true rfl, Nat.le_of_ble_eq_true rfl⟩
theorem EncodeLength.eorIx2 (eeff : Word) : EncodeLength.Statement (.eorIx2 eeff) := ⟨Nat.le_of_ble_eq_true rfl, Nat.le_of_ble_eq_true rfl⟩
theorem EncodeLength.adcIx2 (eeff : Word) : EncodeLength.Statement (.adcIx2 eeff) := ⟨Nat.le_of_ble_eq_true rfl, Nat.le_of_ble_eq_true rfl⟩
theorem EncodeLength.oraIx2 (eeff : Word) : EncodeLength.Statement (.oraIx2 eeff) := ⟨Nat.le_of_ble_eq_true rfl, Nat.le_of_ble_eq_true rfl⟩
theorem EncodeLength.addIx2 (eeff : Word) : EncodeLength.Statement (.addIx2 eeff) := ⟨Nat.le_of_ble_eq_true rfl, Nat.le_of_ble_eq_true rfl⟩
theorem EncodeLength.jmpIx2 (eeff : Word) : EncodeLength.Statement (.jmpIx2 eeff) := ⟨Nat.le_of_ble_eq_true rfl, Nat.le_of_ble_eq_true rfl⟩
theorem EncodeLength.jsrIx2 (eeff : Word) : EncodeLength.Statement (.jsrIx2 eeff) := ⟨Nat.le_of_ble_eq_true rfl, Nat.le_of_ble_eq_true rfl⟩
theorem EncodeLength.ldxIx2 (eeff : Word) : EncodeLength.Statement (.ldxIx2 eeff) := ⟨Nat.le_of_ble_eq_true rfl, Nat.le_of_ble_eq_true rfl⟩
theorem EncodeLength.stxIx2 (eeff : Word) : EncodeLength.Statement (.stxIx2 eeff) := ⟨Nat.le_of_ble_eq_true rfl, Nat.le_of_ble_eq_true rfl⟩
theorem EncodeLength.subIx1 (ff : Byte) : EncodeLength.Statement (.subIx1 ff) := ⟨Nat.le_of_ble_eq_true rfl, Nat.le_of_ble_eq_true rfl⟩
theorem EncodeLength.cmpIx1 (ff : Byte) : EncodeLength.Statement (.cmpIx1 ff) := ⟨Nat.le_of_ble_eq_true rfl, Nat.le_of_ble_eq_true rfl⟩
theorem EncodeLength.sbcIx1 (ff : Byte) : EncodeLength.Statement (.sbcIx1 ff) := ⟨Nat.le_of_ble_eq_true rfl, Nat.le_of_ble_eq_true rfl⟩
theorem EncodeLength.cpxIx1 (ff : Byte) : EncodeLength.Statement (.cpxIx1 ff) := ⟨Nat.le_of_ble_eq_true rfl, Nat.le_of_ble_eq_true rfl⟩
theorem EncodeLength.andIx1 (ff : Byte) : EncodeLength.Statement (.andIx1 ff) := ⟨Nat.le_of_ble_eq_true rfl, Nat.le_of_ble_eq_true rfl⟩
theorem EncodeLength.bitIx1 (ff : Byte) : EncodeLength.Statement (.bitIx1 ff) := ⟨Nat.le_of_ble_eq_true rfl, Nat.le_of_ble_eq_true rfl⟩
theorem EncodeLength.ldaIx1 (ff : Byte) : EncodeLength.Statement (.ldaIx1 ff) := ⟨Nat.le_of_ble_eq_true rfl, Nat.le_of_ble_eq_true rfl⟩
theorem EncodeLength.staIx1 (ff : Byte) : EncodeLength.Statement (.staIx1 ff) := ⟨Nat.le_of_ble_eq_true rfl, Nat.le_of_ble_eq_true rfl⟩
theorem EncodeLength.eorIx1 (ff : Byte) : EncodeLength.Statement (.eorIx1 ff) := ⟨Nat.le_of_ble_eq_true rfl, Nat.le_of_ble_eq_true rfl⟩
theorem EncodeLength.adcIx1 (ff : Byte) : EncodeLength.Statement (.adcIx1 ff) := ⟨Nat.le_of_ble_eq_true rfl, Nat.le_of_ble_eq_true rfl⟩
theorem EncodeLength.oraIx1 (ff : Byte) : EncodeLength.Statement (.oraIx1 ff) := ⟨Nat.le_of_ble_eq_true rfl, Nat.le_of_ble_eq_true rfl⟩
theorem EncodeLength.addIx1 (ff : Byte) : EncodeLength.Statement (.addIx1 ff) := ⟨Nat.le_of_ble_eq_true rfl, Nat.le_of_ble_eq_true rfl⟩
theorem EncodeLength.jmpIx1 (ff : Byte) : EncodeLength.Statement (.jmpIx1 ff) := ⟨Nat.le_of_ble_eq_true rfl, Nat.le_of_ble_eq_true rfl⟩
theorem EncodeLength.jsrIx1 (ff : Byte) : EncodeLength.Statement (.jsrIx1 ff) := ⟨Nat.le_of_ble_eq_true rfl, Nat.le_of_ble_eq_true rfl⟩
theorem EncodeLength.ldxIx1 (ff : Byte) : EncodeLength.Statement (.ldxIx1 ff) := ⟨Nat.le_of_ble_eq_true rfl, Nat.le_of_ble_eq_true rfl⟩
theorem EncodeLength.stxIx1 (ff : Byte) : EncodeLength.Statement (.stxIx1 ff) := ⟨Nat.le_of_ble_eq_true rfl, Nat.le_of_ble_eq_true rfl⟩
theorem EncodeLength.subIx : EncodeLength.Statement .subIx := ⟨Nat.le_of_ble_eq_true rfl, Nat.le_of_ble_eq_true rfl⟩
theorem EncodeLength.cmpIx : EncodeLength.Statement .cmpIx := ⟨Nat.le_of_ble_eq_true rfl, Nat.le_of_ble_eq_true rfl⟩
theorem EncodeLength.sbcIx : EncodeLength.Statement .sbcIx := ⟨Nat.le_of_ble_eq_true rfl, Nat.le_of_ble_eq_true rfl⟩
theorem EncodeLength.cpxIx : EncodeLength.Statement .cpxIx := ⟨Nat.le_of_ble_eq_true rfl, Nat.le_of_ble_eq_true rfl⟩
theorem EncodeLength.andIx : EncodeLength.Statement .andIx := ⟨Nat.le_of_ble_eq_true rfl, Nat.le_of_ble_eq_true rfl⟩
theorem EncodeLength.bitIx : EncodeLength.Statement .bitIx := ⟨Nat.le_of_ble_eq_true rfl, Nat.le_of_ble_eq_true rfl⟩
theorem EncodeLength.ldaIx : EncodeLength.Statement .ldaIx := ⟨Nat.le_of_ble_eq_true rfl, Nat.le_of_ble_eq_true rfl⟩
theorem EncodeLength.staIx : EncodeLength.Statement .staIx := ⟨Nat.le_of_ble_eq_true rfl, Nat.le_of_ble_eq_true rfl⟩
theorem EncodeLength.eorIx : EncodeLength.Statement .eorIx := ⟨Nat.le_of_ble_eq_true rfl, Nat.le_of_ble_eq_true rfl⟩
theorem EncodeLength.adcIx : EncodeLength.Statement .adcIx := ⟨Nat.le_of_ble_eq_true rfl, Nat.le_of_ble_eq_true rfl⟩
theorem EncodeLength.oraIx : EncodeLength.Statement .oraIx := ⟨Nat.le_of_ble_eq_true rfl, Nat.le_of_ble_eq_true rfl⟩
theorem EncodeLength.addIx : EncodeLength.Statement .addIx := ⟨Nat.le_of_ble_eq_true rfl, Nat.le_of_ble_eq_true rfl⟩
theorem EncodeLength.jmpIx : EncodeLength.Statement .jmpIx := ⟨Nat.le_of_ble_eq_true rfl, Nat.le_of_ble_eq_true rfl⟩
theorem EncodeLength.jsrIx : EncodeLength.Statement .jsrIx := ⟨Nat.le_of_ble_eq_true rfl, Nat.le_of_ble_eq_true rfl⟩
theorem EncodeLength.ldxIx : EncodeLength.Statement .ldxIx := ⟨Nat.le_of_ble_eq_true rfl, Nat.le_of_ble_eq_true rfl⟩
theorem EncodeLength.stxIx : EncodeLength.Statement .stxIx := ⟨Nat.le_of_ble_eq_true rfl, Nat.le_of_ble_eq_true rfl⟩
theorem EncodeLength.negSp1 (ff : Byte) : EncodeLength.Statement (.negSp1 ff) := ⟨Nat.le_of_ble_eq_true rfl, Nat.le_of_ble_eq_true rfl⟩
theorem EncodeLength.cbeqSp1 (ff : Byte) (rr : Byte) : EncodeLength.Statement (.cbeqSp1 ff rr) := ⟨Nat.le_of_ble_eq_true rfl, Nat.le_of_ble_eq_true rfl⟩
theorem EncodeLength.comSp1 (ff : Byte) : EncodeLength.Statement (.comSp1 ff) := ⟨Nat.le_of_ble_eq_true rfl, Nat.le_of_ble_eq_true rfl⟩
theorem EncodeLength.lsrSp1 (ff : Byte) : EncodeLength.Statement (.lsrSp1 ff) := ⟨Nat.le_of_ble_eq_true rfl, Nat.le_of_ble_eq_true rfl⟩
theorem EncodeLength.rorSp1 (ff : Byte) : EncodeLength.Statement (.rorSp1 ff) := ⟨Nat.le_of_ble_eq_true rfl, Nat.le_of_ble_eq_true rfl⟩
theorem EncodeLength.asrSp1 (ff : Byte) : EncodeLength.Statement (.asrSp1 ff) := ⟨Nat.le_of_ble_eq_true rfl, Nat.le_of_ble_eq_true rfl⟩
theorem EncodeLength.lslSp1 (ff : Byte) : EncodeLength.Statement (.lslSp1 ff) := ⟨Nat.le_of_ble_eq_true rfl, Nat.le_of_ble_eq_true rfl⟩
theorem EncodeLength.rolSp1 (ff : Byte) : EncodeLength.Statement (.rolSp1 ff) := ⟨Nat.le_of_ble_eq_true rfl, Nat.le_of_ble_eq_true rfl⟩
theorem EncodeLength.decSp1 (ff : Byte) : EncodeLength.Statement (.decSp1 ff) := ⟨Nat.le_of_ble_eq_true rfl, Nat.le_of_ble_eq_true rfl⟩
theorem EncodeLength.dbnzSp1 (ff : Byte) (rr : Byte) : EncodeLength.Statement (.dbnzSp1 ff rr) := ⟨Nat.le_of_ble_eq_true rfl, Nat.le_of_ble_eq_true rfl⟩
theorem EncodeLength.incSp1 (ff : Byte) : EncodeLength.Statement (.incSp1 ff) := ⟨Nat.le_of_ble_eq_true rfl, Nat.le_of_ble_eq_true rfl⟩
theorem EncodeLength.tstSp1 (ff : Byte) : EncodeLength.Statement (.tstSp1 ff) := ⟨Nat.le_of_ble_eq_true rfl, Nat.le_of_ble_eq_true rfl⟩
theorem EncodeLength.clrSp1 (ff : Byte) : EncodeLength.Statement (.clrSp1 ff) := ⟨Nat.le_of_ble_eq_true rfl, Nat.le_of_ble_eq_true rfl⟩
theorem EncodeLength.subSp2 (eeff : Word) : EncodeLength.Statement (.subSp2 eeff) := ⟨Nat.le_of_ble_eq_true rfl, Nat.le_of_ble_eq_true rfl⟩
theorem EncodeLength.cmpSp2 (eeff : Word) : EncodeLength.Statement (.cmpSp2 eeff) := ⟨Nat.le_of_ble_eq_true rfl, Nat.le_of_ble_eq_true rfl⟩
theorem EncodeLength.sbcSp2 (eeff : Word) : EncodeLength.Statement (.sbcSp2 eeff) := ⟨Nat.le_of_ble_eq_true rfl, Nat.le_of_ble_eq_true rfl⟩
theorem EncodeLength.cpxSp2 (eeff : Word) : EncodeLength.Statement (.cpxSp2 eeff) := ⟨Nat.le_of_ble_eq_true rfl, Nat.le_of_ble_eq_true rfl⟩
theorem EncodeLength.andSp2 (eeff : Word) : EncodeLength.Statement (.andSp2 eeff) := ⟨Nat.le_of_ble_eq_true rfl, Nat.le_of_ble_eq_true rfl⟩
theorem EncodeLength.bitSp2 (eeff : Word) : EncodeLength.Statement (.bitSp2 eeff) := ⟨Nat.le_of_ble_eq_true rfl, Nat.le_of_ble_eq_true rfl⟩
theorem EncodeLength.ldaSp2 (eeff : Word) : EncodeLength.Statement (.ldaSp2 eeff) := ⟨Nat.le_of_ble_eq_true rfl, Nat.le_of_ble_eq_true rfl⟩
theorem EncodeLength.staSp2 (eeff : Word) : EncodeLength.Statement (.staSp2 eeff) := ⟨Nat.le_of_ble_eq_true rfl, Nat.le_of_ble_eq_true rfl⟩
theorem EncodeLength.eorSp2 (eeff : Word) : EncodeLength.Statement (.eorSp2 eeff) := ⟨Nat.le_of_ble_eq_true rfl, Nat.le_of_ble_eq_true rfl⟩
theorem EncodeLength.adcSp2 (eeff : Word) : EncodeLength.Statement (.adcSp2 eeff) := ⟨Nat.le_of_ble_eq_true rfl, Nat.le_of_ble_eq_true rfl⟩
theorem EncodeLength.oraSp2 (eeff : Word) : EncodeLength.Statement (.oraSp2 eeff) := ⟨Nat.le_of_ble_eq_true rfl, Nat.le_of_ble_eq_true rfl⟩
theorem EncodeLength.addSp2 (eeff : Word) : EncodeLength.Statement (.addSp2 eeff) := ⟨Nat.le_of_ble_eq_true rfl, Nat.le_of_ble_eq_true rfl⟩
theorem EncodeLength.ldxSp2 (eeff : Word) : EncodeLength.Statement (.ldxSp2 eeff) := ⟨Nat.le_of_ble_eq_true rfl, Nat.le_of_ble_eq_true rfl⟩
theorem EncodeLength.stxSp2 (eeff : Word) : EncodeLength.Statement (.stxSp2 eeff) := ⟨Nat.le_of_ble_eq_true rfl, Nat.le_of_ble_eq_true rfl⟩
theorem EncodeLength.subSp1 (ff : Byte) : EncodeLength.Statement (.subSp1 ff) := ⟨Nat.le_of_ble_eq_true rfl, Nat.le_of_ble_eq_true rfl⟩
theorem EncodeLength.cmpSp1 (ff : Byte) : EncodeLength.Statement (.cmpSp1 ff) := ⟨Nat.le_of_ble_eq_true rfl, Nat.le_of_ble_eq_true rfl⟩
theorem EncodeLength.sbcSp1 (ff : Byte) : EncodeLength.Statement (.sbcSp1 ff) := ⟨Nat.le_of_ble_eq_true rfl, Nat.le_of_ble_eq_true rfl⟩
theorem EncodeLength.cpxSp1 (ff : Byte) : EncodeLength.Statement (.cpxSp1 ff) := ⟨Nat.le_of_ble_eq_true rfl, Nat.le_of_ble_eq_true rfl⟩
theorem EncodeLength.andSp1 (ff : Byte) : EncodeLength.Statement (.andSp1 ff) := ⟨Nat.le_of_ble_eq_true rfl, Nat.le_of_ble_eq_true rfl⟩
theorem EncodeLength.bitSp1 (ff : Byte) : EncodeLength.Statement (.bitSp1 ff) := ⟨Nat.le_of_ble_eq_true rfl, Nat.le_of_ble_eq_true rfl⟩
theorem EncodeLength.ldaSp1 (ff : Byte) : EncodeLength.Statement (.ldaSp1 ff) := ⟨Nat.le_of_ble_eq_true rfl, Nat.le_of_ble_eq_true rfl⟩
theorem EncodeLength.staSp1 (ff : Byte) : EncodeLength.Statement (.staSp1 ff) := ⟨Nat.le_of_ble_eq_true rfl, Nat.le_of_ble_eq_true rfl⟩
theorem EncodeLength.eorSp1 (ff : Byte) : EncodeLength.Statement (.eorSp1 ff) := ⟨Nat.le_of_ble_eq_true rfl, Nat.le_of_ble_eq_true rfl⟩
theorem EncodeLength.adcSp1 (ff : Byte) : EncodeLength.Statement (.adcSp1 ff) := ⟨Nat.le_of_ble_eq_true rfl, Nat.le_of_ble_eq_true rfl⟩
theorem EncodeLength.oraSp1 (ff : Byte) : EncodeLength.Statement (.oraSp1 ff) := ⟨Nat.le_of_ble_eq_true rfl, Nat.le_of_ble_eq_true rfl⟩
theorem EncodeLength.addSp1 (ff : Byte) : EncodeLength.Statement (.addSp1 ff) := ⟨Nat.le_of_ble_eq_true rfl, Nat.le_of_ble_eq_true rfl⟩
theorem EncodeLength.ldxSp1 (ff : Byte) : EncodeLength.Statement (.ldxSp1 ff) := ⟨Nat.le_of_ble_eq_true rfl, Nat.le_of_ble_eq_true rfl⟩
theorem EncodeLength.stxSp1 (ff : Byte) : EncodeLength.Statement (.stxSp1 ff) := ⟨Nat.le_of_ble_eq_true rfl, Nat.le_of_ble_eq_true rfl⟩
theorem EncodeLength.illegalPage2 (b1 : Byte) : EncodeLength.Statement (.illegalPage2 b1) := ⟨Nat.le_of_ble_eq_true rfl, Nat.le_of_ble_eq_true rfl⟩

end Sys2Proof.Laws
end

