-- ==== Sys2Proof/Laws/Reset.lean ====
section
/-! SUPPORT. What a reset leaves of memory, said once. -/

namespace Sys2Proof.Machine

/-- A reset keeps the canonical form. -/
theorem State.memAfterReset_wf {s : State} (causes : Byte) (h : Memory.wf s.mem = true) :
    Memory.wf (s.memAfterReset causes) = true := by
  unfold State.memAfterReset
  dsimp only
  split
  · exact Memory.wf_freeRam _ _ (Memory.wf_dropDevices _ h) (by decide)
  · split
    · exact Memory.wf_freeBytes _ _ _ (Memory.wf_dropDevices _ h)
    · exact Memory.wf_dropDevices _ h

/-- FLASH and ROM stay as they are through a reset. -/
theorem State.resetSequence_kept (s : State) (causes : Byte) {a : Word} (h : s.nonVolatileAt a) :
    (s.resetSequence causes).byteAt a = s.byteAt a := by
  have hd : region s.cfg a.toNat ≠ .device := by rcases h with h | h <;> rw [h] <;> decide
  have hr : region s.cfg a.toNat ≠ .ram := by rcases h with h | h <;> rw [h] <;> decide
  have hi := region_nonVolatile_high h
  show (s.memAfterReset causes).read _ = _
  unfold State.memAfterReset
  dsimp only
  split
  · rw [Memory.read_freeRam _ _ _ (by omega) (by omega), Memory.read_dropDevices _ _ hd]
    rfl
  · split
    · rw [Memory.read_freeBytes _ _ _ _ fun e => absurd e hr, Memory.read_dropDevices _ _ hd]
      rfl
    · rw [Memory.read_dropDevices _ _ hd]
      rfl

/-- RAM stays as it is through a reset that is no power-on, but for the bytes that the instruction an asynchronous reset may
have cut was writing. -/
theorem State.resetSequence_ram (s : State) {causes : Byte} (hp : causes.getLsbD 7 = false) {a : Word} (h : s.ramAt a)
    (hw : asynchronous causes = false ∨ a ∉ s.written) : (s.resetSequence causes).byteAt a = s.byteAt a := by
  have hd : region s.cfg a.toNat ≠ .device := by rw [show region s.cfg a.toNat = .ram from h]; decide
  show (s.memAfterReset causes).read _ = _
  unfold State.memAfterReset
  rw [hp]
  dsimp only
  split
  · contradiction
  · split
    · rw [Memory.read_freeBytes _ _ _ _ fun _ => hw.resolve_left (by simp_all), Memory.read_dropDevices _ _ hd]
      rfl
    · rw [Memory.read_dropDevices _ _ hd]
      rfl

end Sys2Proof.Machine
end

