-- ==== Sys2Proof/Laws/Step.lean ====
section
/-! SUPPORT. Everything one step can do, said once. -/

namespace Sys2Proof.Machine

/-- Fetching operand bytes is an effect. -/
theorem State.withOperandBytes_next {s t : State} {f : Format} {a : Word} {k : Instr → State → Out}
    (h : s.withOperandBytes f a k = .next t) : ∃ i u, Effect s u ∧ k i u = .next t := by
  unfold State.withOperandBytes at h
  cases f with
  | op0 i => exact ⟨i, s, Effect.refl s, h⟩
  | op1 g =>
    obtain ⟨v, u, e, _, h⟩ := State.withRead_effect h
    exact ⟨g v, u, e, h⟩
  | op16 g =>
    obtain ⟨v, u, e, _, h⟩ := State.withRead16_effect h
    exact ⟨g v, u, e, h⟩
  | op2 g =>
    obtain ⟨v, u, e, _, h⟩ := State.withRead_effect h
    obtain ⟨w, u', e', _, h⟩ := State.withRead_effect h
    exact ⟨g v w, u', e.trans e', h⟩

/-- Fetching an instruction is an effect. -/
theorem State.withInstr_next {s t : State} {k : Instr → State → Out} (h : s.withInstr k = .next t) :
    ∃ i u, Effect s u ∧ k i u = .next t := by
  unfold State.withInstr at h
  dsimp only at h
  split at h
  · obtain ⟨b1, u, e, _, h⟩ := State.withRead_effect h
    cases hp : page2 b1 with
    | none =>
      rw [hp] at h
      exact ⟨_, u, e, h⟩
    | some f =>
      rw [hp] at h
      obtain ⟨i, w, e', h⟩ := State.withOperandBytes_next h
      exact ⟨i, w, e.trans e', h⟩
  · exact State.withOperandBytes_next h

/-- The instruction at PC, if it answers a next state: it is fetched and run. -/
theorem State.runAtPc_next {s t : State} (h : s.runAtPc = .next t) :
    ∃ i u, Effect s u ∧ s.fetchStale i.length = false ∧
      exec i ((u.begin i.length).setLink (u.link.follow u.mode i)) = .next t := by
  obtain ⟨i, u, e, h⟩ := State.withInstr_next h
  split at h
  · cases h
  · exact ⟨i, u, e, Bool.eq_false_iff.2 ‹_›, h⟩

/-- A host's read, if it answers a next state. -/
theorem State.withHostRead_effect {s t : State} {a : Word} {k : Byte → State → Out} (h : s.withHostRead a k = .next t) :
    ∃ v u, Effect s u ∧ k v u = .next t := by
  unfold State.withHostRead at h
  split at h
  · exact ⟨_, (s.readPart 0x00#8 0x00#8).2, (Effect.refl s).regs rfl rfl rfl rfl rfl, h⟩
  · obtain ⟨v, u, e, _, h⟩ := State.withRead_effect h
    exact ⟨v, u, e, h⟩

/-- A host's write, if it answers a next state. -/
theorem State.hostWrite_effect {s t : State} {a : Word} {v : Byte} (h : s.hostWrite a v = .next t) : Effect s t := by
  obtain ⟨u, e, _, h⟩ := State.withWrite_effect h
  cases h
  exact e.regs rfl rfl rfl rfl rfl

/-- Everything a command of the host can do if it answers a next state. -/
theorem State.serveHost_next {s t : State} {c : HostCommand} (h : s.serveHost c = .next t) : Effect s t := by
  have e0 : Effect s ((s.begin 0).setLink { s.link with command := none }) :=
    (Effect.refl s).regs rfl rfl rfl rfl rfl
  unfold State.serveHost at h
  cases c with
  | read a =>
    obtain ⟨v, u, e, h⟩ := State.withHostRead_effect h
    cases h
    exact (e0.trans e).regs rfl rfl rfl rfl rfl
  | write a v => exact e0.trans (State.hostWrite_effect h)
  | readNext =>
    obtain ⟨v, u, e, h⟩ := State.withHostRead_effect h
    obtain ⟨w, u', e', h⟩ := State.withHostRead_effect h
    cases h
    exact ((e0.trans e).trans e').regs rfl rfl rfl rfl rfl
  | writeNext v => exact e0.trans (State.hostWrite_effect h)
  | readSp =>
    cases h
    exact e0.regs rfl rfl rfl rfl rfl
  | run =>
    cases h
    exact e0.regs rfl rfl rfl rfl rfl
  | securityKey key =>
    cases h
    exact e0.trans (Effect.ofWrite ⟨id, rfl, rfl, fun w => ⟨w, rfl⟩, fun w => ⟨w, rfl⟩⟩ rfl rfl rfl id fun _ _ => rfl)

/-- Everything a step can do if it answers a next state. -/
theorem step_next {s t : State} (h : step s = .next t) :
    let q := s.takeInputs
    (q.resetPending ≠ 0x00#8 ∧ t = q.resetSequence q.resetPending) ∨
    (q.resetPending = 0x00#8 ∧ q.enterBreak = .next t) ∨
    (q.resetPending = 0x00#8 ∧ ∃ src, q.interruptPending = some src ∧ q.enterInterrupt src = .next t) ∨
    (q.resetPending = 0x00#8 ∧ q.run ≠ .running ∧ t = q) ∨
    (q.resetPending = 0x00#8 ∧ q.run = .running ∧ ∃ c, q.dueCommand = some c ∧ q.serveHost c = .next t) ∨
    (q.resetPending = 0x00#8 ∧ q.run = .running ∧ t = q.resetSequence ResetCause.ilad.bit) ∨
    (q.resetPending = 0x00#8 ∧ q.run = .running ∧ ∃ i u, Effect q u ∧
      exec i ((u.begin i.length).setLink (u.link.follow u.mode i)) = .next t) := by
  intro q
  have h : q.boundary = .next t := h
  unfold State.boundary at h
  split at h
  · cases h
    exact .inl ⟨‹_›, rfl⟩
  · have hr : q.resetPending = 0x00#8 := Decidable.of_not_not ‹_›
    split at h
    · exact .inr (.inl ⟨hr, h⟩)
    · split at h
      · exact .inr (.inr (.inl ⟨hr, _, ‹_›, h⟩))
      · split at h
        · have hrun : q.run = .running := ‹_›
          refine .inr (.inr (.inr (.inr ?_)))
          split at h
          · exact .inl ⟨hr, hrun, _, ‹_›, h⟩
          refine .inr ?_
          unfold State.executeNext State.raiseReset at h
          split at h
          · cases h
            exact .inl ⟨hr, hrun, rfl⟩
          · cases h
          · cases h
          all_goals
            obtain ⟨i, u, e, _, h⟩ := State.runAtPc_next h
            exact .inr ⟨hr, hrun, i, u, e, h⟩
        · have hrun : q.run = .waiting := ‹_›
          exact .inr (.inr (.inr (.inl ⟨hr, by rw [hrun]; decide, by injection h with h; exact h.symm⟩)))
        · have hrun : q.run = .stopped := ‹_›
          exact .inr (.inr (.inr (.inl ⟨hr, by rw [hrun]; decide, by injection h with h; exact h.symm⟩)))

end Sys2Proof.Machine
end

