-- ==== Sys2Proof/Tests/Slice0.lean ====
section
/-! SUPPORT. The model's own tests: well-formedness, the decoding of every constructor from bytes written out from
spec/30_encoding.md R99 to R104, single steps with the results of spec/95_test_vectors.md, and for every obligation with
hypotheses a state and operands that meet them. -/

namespace Sys2Proof.Tests

open Sys2Proof Sys2Proof.Machine

set_option Elab.async false

/-! ### Well-formedness: each check refuses an ill-formed term -/

theorem test_wf_prefix_alone_refused : Instr.page2Prefix.wellFormed = false := rfl

theorem test_wf_illegal_of_legal_byte_refused : (Instr.illegalPage2 0xE6#8).wellFormed = false := rfl

theorem test_wf_illegal_accepted : (Instr.illegalPage2 0x62#8).wellFormed = true := rfl

/-! ### Decoding: every constructor from a word of the tables R99 to R104 -/

theorem test_decode_row0 :
    decode [0x0A#8, 0x80#8, 0xFD#8] = .ok (.brset 5#3 0x80#8 0xFD#8, []) ∧
    decode [0x0B#8, 0x80#8, 0xFD#8] = .ok (.brclr 5#3 0x80#8 0xFD#8, []) := by
  refine ⟨rfl, rfl⟩

theorem test_decode_row1 :
    decode [0x1A#8, 0x80#8] = .ok (.bset 5#3 0x80#8, []) ∧
    decode [0x1B#8, 0x80#8] = .ok (.bclr 5#3 0x80#8, []) := by
  refine ⟨rfl, rfl⟩

theorem test_decode_row2 :
    decode [0x20#8, 0xFD#8] = .ok (.bra 0xFD#8, []) ∧
    decode [0x21#8, 0xFD#8] = .ok (.brn 0xFD#8, []) ∧
    decode [0x22#8, 0xFD#8] = .ok (.bhi 0xFD#8, []) ∧
    decode [0x23#8, 0xFD#8] = .ok (.bls 0xFD#8, []) ∧
    decode [0x24#8, 0xFD#8] = .ok (.bcc 0xFD#8, []) ∧
    decode [0x25#8, 0xFD#8] = .ok (.bcs 0xFD#8, []) ∧
    decode [0x26#8, 0xFD#8] = .ok (.bne 0xFD#8, []) ∧
    decode [0x27#8, 0xFD#8] = .ok (.beq 0xFD#8, []) ∧
    decode [0x28#8, 0xFD#8] = .ok (.bhcc 0xFD#8, []) ∧
    decode [0x29#8, 0xFD#8] = .ok (.bhcs 0xFD#8, []) ∧
    decode [0x2A#8, 0xFD#8] = .ok (.bpl 0xFD#8, []) ∧
    decode [0x2B#8, 0xFD#8] = .ok (.bmi 0xFD#8, []) ∧
    decode [0x2C#8, 0xFD#8] = .ok (.bmc 0xFD#8, []) ∧
    decode [0x2D#8, 0xFD#8] = .ok (.bms 0xFD#8, []) ∧
    decode [0x2E#8, 0xFD#8] = .ok (.bil 0xFD#8, []) ∧
    decode [0x2F#8, 0xFD#8] = .ok (.bih 0xFD#8, []) := by
  refine ⟨rfl, rfl, rfl, rfl, rfl, rfl, rfl, rfl, rfl, rfl, rfl, rfl, rfl, rfl, rfl, rfl⟩

theorem test_decode_row3 :
    decode [0x30#8, 0x80#8] = .ok (.negDir 0x80#8, []) ∧
    decode [0x31#8, 0x80#8, 0xFD#8] = .ok (.cbeqDir 0x80#8 0xFD#8, []) ∧
    decode [0x32#8] = .ok (.illegal32, []) ∧
    decode [0x33#8, 0x80#8] = .ok (.comDir 0x80#8, []) ∧
    decode [0x34#8, 0x80#8] = .ok (.lsrDir 0x80#8, []) ∧
    decode [0x35#8, 0x80#8] = .ok (.sthx 0x80#8, []) ∧
    decode [0x36#8, 0x80#8] = .ok (.rorDir 0x80#8, []) ∧
    decode [0x37#8, 0x80#8] = .ok (.asrDir 0x80#8, []) ∧
    decode [0x38#8, 0x80#8] = .ok (.lslDir 0x80#8, []) ∧
    decode [0x39#8, 0x80#8] = .ok (.rolDir 0x80#8, []) ∧
    decode [0x3A#8, 0x80#8] = .ok (.decDir 0x80#8, []) ∧
    decode [0x3B#8, 0x80#8, 0xFD#8] = .ok (.dbnzDir 0x80#8 0xFD#8, []) ∧
    decode [0x3C#8, 0x80#8] = .ok (.incDir 0x80#8, []) ∧
    decode [0x3D#8, 0x80#8] = .ok (.tstDir 0x80#8, []) ∧
    decode [0x3E#8] = .ok (.illegal3E, []) ∧
    decode [0x3F#8, 0x80#8] = .ok (.clrDir 0x80#8, []) := by
  refine ⟨rfl, rfl, rfl, rfl, rfl, rfl, rfl, rfl, rfl, rfl, rfl, rfl, rfl, rfl, rfl, rfl⟩

theorem test_decode_row4 :
    decode [0x40#8] = .ok (.nega, []) ∧
    decode [0x41#8, 0x40#8, 0xFD#8] = .ok (.cbeqa 0x40#8 0xFD#8, []) ∧
    decode [0x42#8] = .ok (.mul, []) ∧
    decode [0x43#8] = .ok (.coma, []) ∧
    decode [0x44#8] = .ok (.lsra, []) ∧
    decode [0x45#8, 0x12#8, 0x34#8] = .ok (.ldhxImm 0x1234#16, []) ∧
    decode [0x46#8] = .ok (.rora, []) ∧
    decode [0x47#8] = .ok (.asra, []) ∧
    decode [0x48#8] = .ok (.lsla, []) ∧
    decode [0x49#8] = .ok (.rola, []) ∧
    decode [0x4A#8] = .ok (.deca, []) ∧
    decode [0x4B#8, 0xFD#8] = .ok (.dbnza 0xFD#8, []) ∧
    decode [0x4C#8] = .ok (.inca, []) ∧
    decode [0x4D#8] = .ok (.tsta, []) ∧
    decode [0x4E#8, 0x81#8, 0x80#8] = .ok (.movDd 0x81#8 0x80#8, []) ∧
    decode [0x4F#8] = .ok (.clra, []) := by
  refine ⟨rfl, rfl, rfl, rfl, rfl, rfl, rfl, rfl, rfl, rfl, rfl, rfl, rfl, rfl, rfl, rfl⟩

theorem test_decode_row5 :
    decode [0x50#8] = .ok (.negx, []) ∧
    decode [0x51#8, 0x40#8, 0xFD#8] = .ok (.cbeqx 0x40#8 0xFD#8, []) ∧
    decode [0x52#8] = .ok (.div, []) ∧
    decode [0x53#8] = .ok (.comx, []) ∧
    decode [0x54#8] = .ok (.lsrx, []) ∧
    decode [0x55#8, 0x80#8] = .ok (.ldhxDir 0x80#8, []) ∧
    decode [0x56#8] = .ok (.rorx, []) ∧
    decode [0x57#8] = .ok (.asrx, []) ∧
    decode [0x58#8] = .ok (.lslx, []) ∧
    decode [0x59#8] = .ok (.rolx, []) ∧
    decode [0x5A#8] = .ok (.decx, []) ∧
    decode [0x5B#8, 0xFD#8] = .ok (.dbnzx 0xFD#8, []) ∧
    decode [0x5C#8] = .ok (.incx, []) ∧
    decode [0x5D#8] = .ok (.tstx, []) ∧
    decode [0x5E#8, 0x81#8] = .ok (.movDixPlus 0x81#8, []) ∧
    decode [0x5F#8] = .ok (.clrx, []) := by
  refine ⟨rfl, rfl, rfl, rfl, rfl, rfl, rfl, rfl, rfl, rfl, rfl, rfl, rfl, rfl, rfl, rfl⟩

theorem test_decode_row6 :
    decode [0x60#8, 0x05#8] = .ok (.negIx1 0x05#8, []) ∧
    decode [0x61#8, 0x05#8, 0xFD#8] = .ok (.cbeqIx1Plus 0x05#8 0xFD#8, []) ∧
    decode [0x62#8] = .ok (.nsa, []) ∧
    decode [0x63#8, 0x05#8] = .ok (.comIx1 0x05#8, []) ∧
    decode [0x64#8, 0x05#8] = .ok (.lsrIx1 0x05#8, []) ∧
    decode [0x65#8, 0x12#8, 0x34#8] = .ok (.cphxImm 0x1234#16, []) ∧
    decode [0x66#8, 0x05#8] = .ok (.rorIx1 0x05#8, []) ∧
    decode [0x67#8, 0x05#8] = .ok (.asrIx1 0x05#8, []) ∧
    decode [0x68#8, 0x05#8] = .ok (.lslIx1 0x05#8, []) ∧
    decode [0x69#8, 0x05#8] = .ok (.rolIx1 0x05#8, []) ∧
    decode [0x6A#8, 0x05#8] = .ok (.decIx1 0x05#8, []) ∧
    decode [0x6B#8, 0x05#8, 0xFD#8] = .ok (.dbnzIx1 0x05#8 0xFD#8, []) ∧
    decode [0x6C#8, 0x05#8] = .ok (.incIx1 0x05#8, []) ∧
    decode [0x6D#8, 0x05#8] = .ok (.tstIx1 0x05#8, []) ∧
    decode [0x6E#8, 0x40#8, 0x80#8] = .ok (.movImd 0x40#8 0x80#8, []) ∧
    decode [0x6F#8, 0x05#8] = .ok (.clrIx1 0x05#8, []) := by
  refine ⟨rfl, rfl, rfl, rfl, rfl, rfl, rfl, rfl, rfl, rfl, rfl, rfl, rfl, rfl, rfl, rfl⟩

theorem test_decode_row7 :
    decode [0x70#8] = .ok (.negIx, []) ∧
    decode [0x71#8, 0xFD#8] = .ok (.cbeqIxPlus 0xFD#8, []) ∧
    decode [0x72#8] = .ok (.daa, []) ∧
    decode [0x73#8] = .ok (.comIx, []) ∧
    decode [0x74#8] = .ok (.lsrIx, []) ∧
    decode [0x75#8, 0x80#8] = .ok (.cphxDir 0x80#8, []) ∧
    decode [0x76#8] = .ok (.rorIx, []) ∧
    decode [0x77#8] = .ok (.asrIx, []) ∧
    decode [0x78#8] = .ok (.lslIx, []) ∧
    decode [0x79#8] = .ok (.rolIx, []) ∧
    decode [0x7A#8] = .ok (.decIx, []) ∧
    decode [0x7B#8, 0xFD#8] = .ok (.dbnzIx 0xFD#8, []) ∧
    decode [0x7C#8] = .ok (.incIx, []) ∧
    decode [0x7D#8] = .ok (.tstIx, []) ∧
    decode [0x7E#8, 0x80#8] = .ok (.movIxPlusD 0x80#8, []) ∧
    decode [0x7F#8] = .ok (.clrIx, []) := by
  refine ⟨rfl, rfl, rfl, rfl, rfl, rfl, rfl, rfl, rfl, rfl, rfl, rfl, rfl, rfl, rfl, rfl⟩

theorem test_decode_row8 :
    decode [0x80#8] = .ok (.rti, []) ∧
    decode [0x81#8] = .ok (.rts, []) ∧
    decode [0x82#8] = .ok (.illegal82, []) ∧
    decode [0x83#8] = .ok (.swi, []) ∧
    decode [0x84#8] = .ok (.tap, []) ∧
    decode [0x85#8] = .ok (.tpa, []) ∧
    decode [0x86#8] = .ok (.pula, []) ∧
    decode [0x87#8] = .ok (.psha, []) ∧
    decode [0x88#8] = .ok (.pulx, []) ∧
    decode [0x89#8] = .ok (.pshx, []) ∧
    decode [0x8A#8] = .ok (.pulh, []) ∧
    decode [0x8B#8] = .ok (.pshh, []) ∧
    decode [0x8C#8] = .ok (.clrh, []) ∧
    decode [0x8D#8] = .ok (.illegal8D, []) ∧
    decode [0x8E#8] = .ok (.stop, []) ∧
    decode [0x8F#8] = .ok (.wait, []) := by
  refine ⟨rfl, rfl, rfl, rfl, rfl, rfl, rfl, rfl, rfl, rfl, rfl, rfl, rfl, rfl, rfl, rfl⟩

theorem test_decode_row9 :
    decode [0x90#8, 0xFD#8] = .ok (.bge 0xFD#8, []) ∧
    decode [0x91#8, 0xFD#8] = .ok (.blt 0xFD#8, []) ∧
    decode [0x92#8, 0xFD#8] = .ok (.bgt 0xFD#8, []) ∧
    decode [0x93#8, 0xFD#8] = .ok (.ble 0xFD#8, []) ∧
    decode [0x94#8] = .ok (.txs, []) ∧
    decode [0x95#8] = .ok (.tsx, []) ∧
    decode [0x96#8] = .ok (.illegal96, []) ∧
    decode [0x97#8] = .ok (.tax, []) ∧
    decode [0x98#8] = .ok (.clc, []) ∧
    decode [0x99#8] = .ok (.sec, []) ∧
    decode [0x9A#8] = .ok (.cli, []) ∧
    decode [0x9B#8] = .ok (.sei, []) ∧
    decode [0x9C#8] = .ok (.rsp, []) ∧
    decode [0x9D#8] = .ok (.nop, []) ∧
    decode [0x9E#8] = .ok (.page2Prefix, []) ∧
    decode [0x9F#8] = .ok (.txa, []) := by
  refine ⟨rfl, rfl, rfl, rfl, rfl, rfl, rfl, rfl, rfl, rfl, rfl, rfl, rfl, rfl, rfl, rfl⟩

theorem test_decode_rowA :
    decode [0xA0#8, 0x40#8] = .ok (.subImm 0x40#8, []) ∧
    decode [0xA1#8, 0x40#8] = .ok (.cmpImm 0x40#8, []) ∧
    decode [0xA2#8, 0x40#8] = .ok (.sbcImm 0x40#8, []) ∧
    decode [0xA3#8, 0x40#8] = .ok (.cpxImm 0x40#8, []) ∧
    decode [0xA4#8, 0x40#8] = .ok (.andImm 0x40#8, []) ∧
    decode [0xA5#8, 0x40#8] = .ok (.bitImm 0x40#8, []) ∧
    decode [0xA6#8, 0x40#8] = .ok (.ldaImm 0x40#8, []) ∧
    decode [0xA7#8, 0x40#8] = .ok (.ais 0x40#8, []) ∧
    decode [0xA8#8, 0x40#8] = .ok (.eorImm 0x40#8, []) ∧
    decode [0xA9#8, 0x40#8] = .ok (.adcImm 0x40#8, []) ∧
    decode [0xAA#8, 0x40#8] = .ok (.oraImm 0x40#8, []) ∧
    decode [0xAB#8, 0x40#8] = .ok (.addImm 0x40#8, []) ∧
    decode [0xAC#8] = .ok (.illegalAC, []) ∧
    decode [0xAD#8, 0xFD#8] = .ok (.bsr 0xFD#8, []) ∧
    decode [0xAE#8, 0x40#8] = .ok (.ldxImm 0x40#8, []) ∧
    decode [0xAF#8, 0x40#8] = .ok (.aix 0x40#8, []) := by
  refine ⟨rfl, rfl, rfl, rfl, rfl, rfl, rfl, rfl, rfl, rfl, rfl, rfl, rfl, rfl, rfl, rfl⟩

theorem test_decode_rowB :
    decode [0xB0#8, 0x80#8] = .ok (.subDir 0x80#8, []) ∧
    decode [0xB1#8, 0x80#8] = .ok (.cmpDir 0x80#8, []) ∧
    decode [0xB2#8, 0x80#8] = .ok (.sbcDir 0x80#8, []) ∧
    decode [0xB3#8, 0x80#8] = .ok (.cpxDir 0x80#8, []) ∧
    decode [0xB4#8, 0x80#8] = .ok (.andDir 0x80#8, []) ∧
    decode [0xB5#8, 0x80#8] = .ok (.bitDir 0x80#8, []) ∧
    decode [0xB6#8, 0x80#8] = .ok (.ldaDir 0x80#8, []) ∧
    decode [0xB7#8, 0x80#8] = .ok (.staDir 0x80#8, []) ∧
    decode [0xB8#8, 0x80#8] = .ok (.eorDir 0x80#8, []) ∧
    decode [0xB9#8, 0x80#8] = .ok (.adcDir 0x80#8, []) ∧
    decode [0xBA#8, 0x80#8] = .ok (.oraDir 0x80#8, []) ∧
    decode [0xBB#8, 0x80#8] = .ok (.addDir 0x80#8, []) ∧
    decode [0xBC#8, 0x80#8] = .ok (.jmpDir 0x80#8, []) ∧
    decode [0xBD#8, 0x80#8] = .ok (.jsrDir 0x80#8, []) ∧
    decode [0xBE#8, 0x80#8] = .ok (.ldxDir 0x80#8, []) ∧
    decode [0xBF#8, 0x80#8] = .ok (.stxDir 0x80#8, []) := by
  refine ⟨rfl, rfl, rfl, rfl, rfl, rfl, rfl, rfl, rfl, rfl, rfl, rfl, rfl, rfl, rfl, rfl⟩

theorem test_decode_rowC :
    decode [0xC0#8, 0xEE#8, 0x41#8] = .ok (.subExt 0xEE41#16, []) ∧
    decode [0xC1#8, 0xEE#8, 0x41#8] = .ok (.cmpExt 0xEE41#16, []) ∧
    decode [0xC2#8, 0xEE#8, 0x41#8] = .ok (.sbcExt 0xEE41#16, []) ∧
    decode [0xC3#8, 0xEE#8, 0x41#8] = .ok (.cpxExt 0xEE41#16, []) ∧
    decode [0xC4#8, 0xEE#8, 0x41#8] = .ok (.andExt 0xEE41#16, []) ∧
    decode [0xC5#8, 0xEE#8, 0x41#8] = .ok (.bitExt 0xEE41#16, []) ∧
    decode [0xC6#8, 0xEE#8, 0x41#8] = .ok (.ldaExt 0xEE41#16, []) ∧
    decode [0xC7#8, 0xEE#8, 0x41#8] = .ok (.staExt 0xEE41#16, []) ∧
    decode [0xC8#8, 0xEE#8, 0x41#8] = .ok (.eorExt 0xEE41#16, []) ∧
    decode [0xC9#8, 0xEE#8, 0x41#8] = .ok (.adcExt 0xEE41#16, []) ∧
    decode [0xCA#8, 0xEE#8, 0x41#8] = .ok (.oraExt 0xEE41#16, []) ∧
    decode [0xCB#8, 0xEE#8, 0x41#8] = .ok (.addExt 0xEE41#16, []) ∧
    decode [0xCC#8, 0xEE#8, 0x41#8] = .ok (.jmpExt 0xEE41#16, []) ∧
    decode [0xCD#8, 0xEE#8, 0x41#8] = .ok (.jsrExt 0xEE41#16, []) ∧
    decode [0xCE#8, 0xEE#8, 0x41#8] = .ok (.ldxExt 0xEE41#16, []) ∧
    decode [0xCF#8, 0xEE#8, 0x41#8] = .ok (.stxExt 0xEE41#16, []) := by
  refine ⟨rfl, rfl, rfl, rfl, rfl, rfl, rfl, rfl, rfl, rfl, rfl, rfl, rfl, rfl, rfl, rfl⟩

theorem test_decode_rowD :
    decode [0xD0#8, 0x48#8, 0x5E#8] = .ok (.subIx2 0x485E#16, []) ∧
    decode [0xD1#8, 0x48#8, 0x5E#8] = .ok (.cmpIx2 0x485E#16, []) ∧
    decode [0xD2#8, 0x48#8, 0x5E#8] = .ok (.sbcIx2 0x485E#16, []) ∧
    decode [0xD3#8, 0x48#8, 0x5E#8] = .ok (.cpxIx2 0x485E#16, []) ∧
    decode [0xD4#8, 0x48#8, 0x5E#8] = .ok (.andIx2 0x485E#16, []) ∧
    decode [0xD5#8, 0x48#8, 0x5E#8] = .ok (.bitIx2 0x485E#16, []) ∧
    decode [0xD6#8, 0x48#8, 0x5E#8] = .ok (.ldaIx2 0x485E#16, []) ∧
    decode [0xD7#8, 0x48#8, 0x5E#8] = .ok (.staIx2 0x485E#16, []) ∧
    decode [0xD8#8, 0x48#8, 0x5E#8] = .ok (.eorIx2 0x485E#16, []) ∧
    decode [0xD9#8, 0x48#8, 0x5E#8] = .ok (.adcIx2 0x485E#16, []) ∧
    decode [0xDA#8, 0x48#8, 0x5E#8] = .ok (.oraIx2 0x485E#16, []) ∧
    decode [0xDB#8, 0x48#8, 0x5E#8] = .ok (.addIx2 0x485E#16, []) ∧
    decode [0xDC#8, 0x48#8, 0x5E#8] = .ok (.jmpIx2 0x485E#16, []) ∧
    decode [0xDD#8, 0x48#8, 0x5E#8] = .ok (.jsrIx2 0x485E#16, []) ∧
    decode [0xDE#8, 0x48#8, 0x5E#8] = .ok (.ldxIx2 0x485E#16, []) ∧
    decode [0xDF#8, 0x48#8, 0x5E#8] = .ok (.stxIx2 0x485E#16, []) := by
  refine ⟨rfl, rfl, rfl, rfl, rfl, rfl, rfl, rfl, rfl, rfl, rfl, rfl, rfl, rfl, rfl, rfl⟩

theorem test_decode_rowE :
    decode [0xE0#8, 0x05#8] = .ok (.subIx1 0x05#8, []) ∧
    decode [0xE1#8, 0x05#8] = .ok (.cmpIx1 0x05#8, []) ∧
    decode [0xE2#8, 0x05#8] = .ok (.sbcIx1 0x05#8, []) ∧
    decode [0xE3#8, 0x05#8] = .ok (.cpxIx1 0x05#8, []) ∧
    decode [0xE4#8, 0x05#8] = .ok (.andIx1 0x05#8, []) ∧
    decode [0xE5#8, 0x05#8] = .ok (.bitIx1 0x05#8, []) ∧
    decode [0xE6#8, 0x05#8] = .ok (.ldaIx1 0x05#8, []) ∧
    decode [0xE7#8, 0x05#8] = .ok (.staIx1 0x05#8, []) ∧
    decode [0xE8#8, 0x05#8] = .ok (.eorIx1 0x05#8, []) ∧
    decode [0xE9#8, 0x05#8] = .ok (.adcIx1 0x05#8, []) ∧
    decode [0xEA#8, 0x05#8] = .ok (.oraIx1 0x05#8, []) ∧
    decode [0xEB#8, 0x05#8] = .ok (.addIx1 0x05#8, []) ∧
    decode [0xEC#8, 0x05#8] = .ok (.jmpIx1 0x05#8, []) ∧
    decode [0xED#8, 0x05#8] = .ok (.jsrIx1 0x05#8, []) ∧
    decode [0xEE#8, 0x05#8] = .ok (.ldxIx1 0x05#8, []) ∧
    decode [0xEF#8, 0x05#8] = .ok (.stxIx1 0x05#8, []) := by
  refine ⟨rfl, rfl, rfl, rfl, rfl, rfl, rfl, rfl, rfl, rfl, rfl, rfl, rfl, rfl, rfl, rfl⟩

theorem test_decode_rowF :
    decode [0xF0#8] = .ok (.subIx, []) ∧
    decode [0xF1#8] = .ok (.cmpIx, []) ∧
    decode [0xF2#8] = .ok (.sbcIx, []) ∧
    decode [0xF3#8] = .ok (.cpxIx, []) ∧
    decode [0xF4#8] = .ok (.andIx, []) ∧
    decode [0xF5#8] = .ok (.bitIx, []) ∧
    decode [0xF6#8] = .ok (.ldaIx, []) ∧
    decode [0xF7#8] = .ok (.staIx, []) ∧
    decode [0xF8#8] = .ok (.eorIx, []) ∧
    decode [0xF9#8] = .ok (.adcIx, []) ∧
    decode [0xFA#8] = .ok (.oraIx, []) ∧
    decode [0xFB#8] = .ok (.addIx, []) ∧
    decode [0xFC#8] = .ok (.jmpIx, []) ∧
    decode [0xFD#8] = .ok (.jsrIx, []) ∧
    decode [0xFE#8] = .ok (.ldxIx, []) ∧
    decode [0xFF#8] = .ok (.stxIx, []) := by
  refine ⟨rfl, rfl, rfl, rfl, rfl, rfl, rfl, rfl, rfl, rfl, rfl, rfl, rfl, rfl, rfl, rfl⟩

theorem test_decode_page2_row6 :
    decode [0x9E#8, 0x60#8, 0x05#8] = .ok (.negSp1 0x05#8, []) ∧
    decode [0x9E#8, 0x61#8, 0x05#8, 0xFD#8] = .ok (.cbeqSp1 0x05#8 0xFD#8, []) ∧
    decode [0x9E#8, 0x63#8, 0x05#8] = .ok (.comSp1 0x05#8, []) ∧
    decode [0x9E#8, 0x64#8, 0x05#8] = .ok (.lsrSp1 0x05#8, []) ∧
    decode [0x9E#8, 0x66#8, 0x05#8] = .ok (.rorSp1 0x05#8, []) ∧
    decode [0x9E#8, 0x67#8, 0x05#8] = .ok (.asrSp1 0x05#8, []) ∧
    decode [0x9E#8, 0x68#8, 0x05#8] = .ok (.lslSp1 0x05#8, []) ∧
    decode [0x9E#8, 0x69#8, 0x05#8] = .ok (.rolSp1 0x05#8, []) ∧
    decode [0x9E#8, 0x6A#8, 0x05#8] = .ok (.decSp1 0x05#8, []) ∧
    decode [0x9E#8, 0x6B#8, 0x05#8, 0xFD#8] = .ok (.dbnzSp1 0x05#8 0xFD#8, []) ∧
    decode [0x9E#8, 0x6C#8, 0x05#8] = .ok (.incSp1 0x05#8, []) ∧
    decode [0x9E#8, 0x6D#8, 0x05#8] = .ok (.tstSp1 0x05#8, []) ∧
    decode [0x9E#8, 0x6F#8, 0x05#8] = .ok (.clrSp1 0x05#8, []) := by
  refine ⟨rfl, rfl, rfl, rfl, rfl, rfl, rfl, rfl, rfl, rfl, rfl, rfl, rfl⟩

theorem test_decode_page2_rowD :
    decode [0x9E#8, 0xD0#8, 0x48#8, 0x5E#8] = .ok (.subSp2 0x485E#16, []) ∧
    decode [0x9E#8, 0xD1#8, 0x48#8, 0x5E#8] = .ok (.cmpSp2 0x485E#16, []) ∧
    decode [0x9E#8, 0xD2#8, 0x48#8, 0x5E#8] = .ok (.sbcSp2 0x485E#16, []) ∧
    decode [0x9E#8, 0xD3#8, 0x48#8, 0x5E#8] = .ok (.cpxSp2 0x485E#16, []) ∧
    decode [0x9E#8, 0xD4#8, 0x48#8, 0x5E#8] = .ok (.andSp2 0x485E#16, []) ∧
    decode [0x9E#8, 0xD5#8, 0x48#8, 0x5E#8] = .ok (.bitSp2 0x485E#16, []) ∧
    decode [0x9E#8, 0xD6#8, 0x48#8, 0x5E#8] = .ok (.ldaSp2 0x485E#16, []) ∧
    decode [0x9E#8, 0xD7#8, 0x48#8, 0x5E#8] = .ok (.staSp2 0x485E#16, []) ∧
    decode [0x9E#8, 0xD8#8, 0x48#8, 0x5E#8] = .ok (.eorSp2 0x485E#16, []) ∧
    decode [0x9E#8, 0xD9#8, 0x48#8, 0x5E#8] = .ok (.adcSp2 0x485E#16, []) ∧
    decode [0x9E#8, 0xDA#8, 0x48#8, 0x5E#8] = .ok (.oraSp2 0x485E#16, []) ∧
    decode [0x9E#8, 0xDB#8, 0x48#8, 0x5E#8] = .ok (.addSp2 0x485E#16, []) ∧
    decode [0x9E#8, 0xDE#8, 0x48#8, 0x5E#8] = .ok (.ldxSp2 0x485E#16, []) ∧
    decode [0x9E#8, 0xDF#8, 0x48#8, 0x5E#8] = .ok (.stxSp2 0x485E#16, []) := by
  refine ⟨rfl, rfl, rfl, rfl, rfl, rfl, rfl, rfl, rfl, rfl, rfl, rfl, rfl, rfl⟩

theorem test_decode_page2_rowE :
    decode [0x9E#8, 0xE0#8, 0x05#8] = .ok (.subSp1 0x05#8, []) ∧
    decode [0x9E#8, 0xE1#8, 0x05#8] = .ok (.cmpSp1 0x05#8, []) ∧
    decode [0x9E#8, 0xE2#8, 0x05#8] = .ok (.sbcSp1 0x05#8, []) ∧
    decode [0x9E#8, 0xE3#8, 0x05#8] = .ok (.cpxSp1 0x05#8, []) ∧
    decode [0x9E#8, 0xE4#8, 0x05#8] = .ok (.andSp1 0x05#8, []) ∧
    decode [0x9E#8, 0xE5#8, 0x05#8] = .ok (.bitSp1 0x05#8, []) ∧
    decode [0x9E#8, 0xE6#8, 0x05#8] = .ok (.ldaSp1 0x05#8, []) ∧
    decode [0x9E#8, 0xE7#8, 0x05#8] = .ok (.staSp1 0x05#8, []) ∧
    decode [0x9E#8, 0xE8#8, 0x05#8] = .ok (.eorSp1 0x05#8, []) ∧
    decode [0x9E#8, 0xE9#8, 0x05#8] = .ok (.adcSp1 0x05#8, []) ∧
    decode [0x9E#8, 0xEA#8, 0x05#8] = .ok (.oraSp1 0x05#8, []) ∧
    decode [0x9E#8, 0xEB#8, 0x05#8] = .ok (.addSp1 0x05#8, []) ∧
    decode [0x9E#8, 0xEE#8, 0x05#8] = .ok (.ldxSp1 0x05#8, []) ∧
    decode [0x9E#8, 0xEF#8, 0x05#8] = .ok (.stxSp1 0x05#8, []) := by
  refine ⟨rfl, rfl, rfl, rfl, rfl, rfl, rfl, rfl, rfl, rfl, rfl, rfl, rfl, rfl⟩

theorem test_decode_illegal_page2 :
    decode [0x9E#8, 0x62#8] = .ok (.illegalPage2 0x62#8, []) := by
  exact rfl

/-- An operand byte is missing; there is no byte. -/
theorem test_decode_short : decode [0xC6#8, 0xEE#8] = .error .missingOperand ∧ decode [] = .error .noBytes := ⟨rfl, rfl⟩

/-- A table word of page 2: the prefix is its higher byte (log 29). -/
theorem test_table_word_page2 : decodeTableWord 16 0x9EE6 = some (.ldaSp1 0x00#8) := rfl

theorem test_table_word_page1 : decodeTableWord 8 0xCC = some (.jmpExt 0x0000#16) := rfl

/-! ### Single steps: the vectors of spec/95_test_vectors.md with the same number -/

/-- The state before a vector: user mode, PC at $EE00, STACK_XFER_ADJ = 0. -/
def before (bytes : List Byte) : State :=
  { State.reset with
    pc := 0xEE00#16
    mode := .user
    sim := { Sim.reset with srsr := 0x00#8 }
    cfg := { variant := .qy4, stackXferAdj := false, cliDelay := true }
    mem := Memory.writeAll [] 0xEE00 bytes }

/-- The six flags V Hf I N Z C from their bits. -/
def flagsOf (b : BitVec 6) : Flags :=
  { v := b.getLsbD 5, h := b.getLsbD 4, i := b.getLsbD 3, n := b.getLsbD 2, z := b.getLsbD 1, c := b.getLsbD 0 }

/-- The step answers a next state of which `p` holds. -/
def stepsTo (s : State) (p : State → Bool) : Bool :=
  match step s with
  | .next t => p t
  | .fault _ => false
  | .refused _ => false

theorem test_step_T6_lda : stepsTo 
    { (before [0xE6#8, 0x81#8]) with
      h := 0xFF#8
      x := 0xFF#8
      ccr := flagsOf 0b001000#6
      mem := (before [0xE6#8, 0x81#8]).mem.write 0x0080 0x42#8 }
    (fun t => t.a == 0x42#8 && t.pc == 0xEE02#16 && t.ccr == flagsOf 0b001000#6) = true := by decide +kernel

theorem test_step_T13_ldhx : stepsTo 
    { (before [0x55#8, 0x80#8]) with
      ccr := flagsOf 0b001000#6
      mem := ((before [0x55#8, 0x80#8]).mem.write 0x0080 0x12#8).write 0x0081 0x34#8 }
    (fun t => t.hx == 0x1234#16 && t.pc == 0xEE02#16 && t.ccr == flagsOf 0b001000#6) = true := by decide +kernel

theorem test_step_T17_sthx : stepsTo 
    { (before [0x35#8, 0x80#8]) with
      h := 0x12#8
      x := 0x34#8
      ccr := flagsOf 0b001000#6 }
    (fun t => t.mem.read 0x0080 == 0x12#8 && t.mem.read 0x0081 == 0x34#8 && t.pc == 0xEE02#16 &&
      t.ccr == flagsOf 0b001000#6) = true := by decide +kernel

theorem test_step_T23_mov : stepsTo 
    { (before [0x7E#8, 0x80#8]) with
      h := 0x00#8
      x := 0xFF#8
      ccr := flagsOf 0b001000#6
      mem := (before [0x7E#8, 0x80#8]).mem.write 0x00FF 0x07#8 }
    (fun t => t.hx == 0x0100#16 && t.mem.read 0x0080 == 0x07#8 && t.pc == 0xEE02#16 &&
      t.ccr == flagsOf 0b001000#6) = true := by decide +kernel

theorem test_step_T24_mov : stepsTo 
    { (before [0x5E#8, 0x80#8]) with
      h := 0x00#8
      x := 0x90#8
      ccr := flagsOf 0b001000#6
      mem := (before [0x5E#8, 0x80#8]).mem.write 0x0080 0x66#8 }
    (fun t => t.hx == 0x0091#16 && t.mem.read 0x0090 == 0x66#8 && t.pc == 0xEE02#16 &&
      t.ccr == flagsOf 0b001000#6) = true := by decide +kernel

theorem test_step_T25_psha : stepsTo 
    { (before [0x87#8]) with
      a := 0xA5#8
      ccr := flagsOf 0b001000#6 }
    (fun t => t.sp == 0x00FE#16 && t.mem.read 0x00FF == 0xA5#8 && t.pc == 0xEE01#16 &&
      t.ccr == flagsOf 0b001000#6) = true := by decide +kernel

theorem test_step_T28_pula : stepsTo 
    { (before [0x86#8]) with
      sp := 0x00FE#16
      ccr := flagsOf 0b001000#6
      mem := (before [0x86#8]).mem.write 0x00FF 0xA5#8 }
    (fun t => t.a == 0xA5#8 && t.sp == 0x00FF#16 && t.pc == 0xEE01#16 && t.ccr == flagsOf 0b001000#6) = true := by decide +kernel

theorem test_step_T31_clr : stepsTo 
    { (before [0x3F#8, 0x80#8]) with
      ccr := flagsOf 0b101101#6
      mem := (before [0x3F#8, 0x80#8]).mem.write 0x0080 0xFF#8 }
    (fun t => t.mem.read 0x0080 == 0x00#8 && t.pc == 0xEE02#16 && t.ccr == flagsOf 0b001011#6) = true := by decide +kernel

theorem test_step_T37_rsp : stepsTo 
    { (before [0x9C#8]) with
      sp := 0x01F0#16
      ccr := flagsOf 0b001000#6 }
    (fun t => t.sp == 0x01FF#16 && t.pc == 0xEE01#16 && t.ccr == flagsOf 0b001000#6) = true := by decide +kernel

theorem test_step_T41_tpa : stepsTo 
    { (before [0x85#8]) with
      a := 0xFF#8
      ccr := flagsOf 0b000000#6 }
    (fun t => t.a == 0x60#8 && t.pc == 0xEE01#16 && t.ccr == flagsOf 0b000000#6) = true := by decide +kernel

theorem test_step_T44_txs : stepsTo 
    { (before [0x94#8]) with
      h := 0x00#8
      x := 0xF0#8
      ccr := flagsOf 0b001000#6 }
    (fun t => t.sp == 0x00F0#16 && t.pc == 0xEE01#16 && t.ccr == flagsOf 0b001000#6) = true := by decide +kernel

theorem test_step_T46_add : stepsTo 
    { (before [0xAB#8, 0x01#8]) with
      a := 0xFF#8
      ccr := flagsOf 0b001000#6 }
    (fun t => t.a == 0x00#8 && t.pc == 0xEE02#16 && t.ccr == flagsOf 0b011011#6) = true := by decide +kernel

theorem test_step_T52_adc : stepsTo 
    { (before [0xB9#8, 0x80#8]) with
      a := 0x01#8
      ccr := flagsOf 0b001000#6
      mem := (before [0xB9#8, 0x80#8]).mem.write 0x0080 0x02#8 }
    (fun t => t.a == 0x03#8 && t.pc == 0xEE02#16 && t.ccr == flagsOf 0b001000#6) = true := by decide +kernel

theorem test_step_T54_sub : stepsTo 
    { (before [0xA0#8, 0x01#8]) with
      a := 0x80#8
      ccr := flagsOf 0b001000#6 }
    (fun t => t.a == 0x7F#8 && t.pc == 0xEE02#16 && t.ccr == flagsOf 0b101000#6) = true := by decide +kernel

theorem test_step_T58_cmp : stepsTo 
    { (before [0xA1#8, 0x7F#8]) with
      a := 0x80#8
      ccr := flagsOf 0b001000#6 }
    (fun t => t.pc == 0xEE02#16 && t.ccr == flagsOf 0b101000#6) = true := by decide +kernel

theorem test_step_T64_cphx : stepsTo 
    { (before [0x65#8, 0x00#8, 0x01#8]) with
      h := 0x00#8
      x := 0x00#8
      ccr := flagsOf 0b001000#6 }
    (fun t => t.pc == 0xEE03#16 && t.ccr == flagsOf 0b001101#6) = true := by decide +kernel

theorem test_step_T68_ais : stepsTo 
    { (before [0xA7#8, 0x02#8]) with
      sp := 0x00FD#16
      ccr := flagsOf 0b001000#6 }
    (fun t => t.sp == 0x00FF#16 && t.pc == 0xEE02#16 && t.ccr == flagsOf 0b001000#6) = true := by decide +kernel

theorem test_step_T70_aix : stepsTo 
    { (before [0xAF#8, 0x7F#8]) with
      h := 0x00#8
      x := 0xF0#8
      ccr := flagsOf 0b001000#6 }
    (fun t => t.hx == 0x016F#16 && t.pc == 0xEE02#16 && t.ccr == flagsOf 0b001000#6) = true := by decide +kernel

theorem test_step_T76_asra : stepsTo 
    { (before [0x47#8]) with
      a := 0x81#8
      ccr := flagsOf 0b001000#6 }
    (fun t => t.a == 0xC0#8 && t.pc == 0xEE01#16 && t.ccr == flagsOf 0b001101#6) = true := by decide +kernel

theorem test_step_T82_deca : stepsTo 
    { (before [0x4A#8]) with
      a := 0x01#8
      ccr := flagsOf 0b001000#6 }
    (fun t => t.a == 0x00#8 && t.pc == 0xEE01#16 && t.ccr == flagsOf 0b001010#6) = true := by decide +kernel

theorem test_step_T86_inca : stepsTo 
    { (before [0x4C#8]) with
      a := 0xFF#8
      ccr := flagsOf 0b001000#6 }
    (fun t => t.a == 0x00#8 && t.pc == 0xEE01#16 && t.ccr == flagsOf 0b001010#6) = true := by decide +kernel

theorem test_step_T95_div : stepsTo 
    { (before [0x52#8]) with
      a := 0x00#8
      h := 0x01#8
      x := 0x10#8
      ccr := flagsOf 0b001000#6 }
    (fun t => t.a == 0x10#8 && t.hx == 0x0010#16 && t.pc == 0xEE01#16 && t.ccr == flagsOf 0b001000#6) = true := by decide +kernel

theorem test_step_T97_div : stepsTo 
    { (before [0x52#8]) with
      a := 0x07#8
      h := 0x00#8
      x := 0x03#8
      ccr := flagsOf 0b001001#6 }
    (fun t => t.a == 0x02#8 && t.hx == 0x0103#16 && t.pc == 0xEE01#16 && t.ccr == flagsOf 0b001000#6) = true := by decide +kernel

theorem test_step_T104_daa : stepsTo 
    { (before [0x72#8]) with
      a := 0x9A#8
      ccr := flagsOf 0b001000#6 }
    (fun t => t.a == 0x00#8 && t.pc == 0xEE01#16 && t.ccr.n == false &&
      t.ccr.z == true && t.ccr.c == true) = true := by decide +kernel

theorem test_step_T109_and : stepsTo 
    { (before [0xA4#8, 0x80#8]) with
      a := 0xFF#8
      ccr := flagsOf 0b001000#6 }
    (fun t => t.a == 0x80#8 && t.pc == 0xEE02#16 && t.ccr == flagsOf 0b001100#6) = true := by decide +kernel

theorem test_step_T112_eor : stepsTo 
    { (before [0xA8#8, 0xFF#8]) with
      a := 0xFF#8
      ccr := flagsOf 0b001000#6 }
    (fun t => t.a == 0x00#8 && t.pc == 0xEE02#16 && t.ccr == flagsOf 0b001010#6) = true := by decide +kernel

theorem test_step_T118_com : stepsTo 
    { (before [0x33#8, 0x80#8]) with
      ccr := flagsOf 0b001000#6
      mem := (before [0x33#8, 0x80#8]).mem.write 0x0080 0x55#8 }
    (fun t => t.mem.read 0x0080 == 0xAA#8 && t.pc == 0xEE02#16 && t.ccr == flagsOf 0b001101#6) = true := by decide +kernel

theorem test_step_T121_nega : stepsTo 
    { (before [0x40#8]) with
      a := 0x80#8
      ccr := flagsOf 0b001000#6 }
    (fun t => t.pc == 0xEE01#16 && t.ccr == flagsOf 0b101101#6) = true := by decide +kernel

theorem test_step_T133_rola : stepsTo 
    { (before [0x49#8]) with
      a := 0x40#8
      ccr := flagsOf 0b001000#6 }
    (fun t => t.a == 0x80#8 && t.pc == 0xEE01#16 && t.ccr == flagsOf 0b101100#6) = true := by decide +kernel

theorem test_step_T136_rora : stepsTo 
    { (before [0x46#8]) with
      a := 0x01#8
      ccr := flagsOf 0b001001#6 }
    (fun t => t.a == 0x80#8 && t.pc == 0xEE01#16 && t.ccr == flagsOf 0b001101#6) = true := by decide +kernel

theorem test_step_T151_bcc : stepsTo 
    { (before [0x24#8, 0x02#8]) with
      ccr := flagsOf 0b001001#6 }
    (fun t => t.pc == 0xEE02#16 && t.ccr == flagsOf 0b001001#6) = true := by decide +kernel

theorem test_step_T166_bls : stepsTo 
    { (before [0x23#8, 0x02#8]) with
      ccr := flagsOf 0b001001#6 }
    (fun t => t.pc == 0xEE04#16 && t.ccr == flagsOf 0b001001#6) = true := by decide +kernel

theorem test_step_T174_bgt : stepsTo 
    { (before [0x92#8, 0x02#8]) with
      ccr := flagsOf 0b001010#6 }
    (fun t => t.pc == 0xEE02#16 && t.ccr == flagsOf 0b001010#6) = true := by decide +kernel

theorem test_step_T184_brclr : stepsTo 
    { (before [0x07#8, 0x80#8, 0xFD#8]) with
      ccr := flagsOf 0b001000#6
      mem := (before [0x07#8, 0x80#8, 0xFD#8]).mem.write 0x0080 0x08#8 }
    (fun t => t.pc == 0xEE03#16 && t.ccr == flagsOf 0b001001#6) = true := by decide +kernel

theorem test_step_T187_cbeq : stepsTo 
    { (before [0x71#8, 0x02#8]) with
      a := 0x0D#8
      h := 0x00#8
      x := 0x80#8
      ccr := flagsOf 0b001000#6
      mem := (before [0x71#8, 0x02#8]).mem.write 0x0080 0x0D#8 }
    (fun t => t.hx == 0x0081#16 && t.pc == 0xEE04#16 && t.ccr == flagsOf 0b001000#6) = true := by decide +kernel

theorem test_step_T196_dbnz : stepsTo 
    { (before [0x3B#8, 0x80#8, 0xFD#8]) with
      ccr := flagsOf 0b001000#6
      mem := (before [0x3B#8, 0x80#8, 0xFD#8]).mem.write 0x0080 0x00#8 }
    (fun t => t.mem.read 0x0080 == 0xFF#8 && t.pc == 0xEE00#16 && t.ccr == flagsOf 0b001000#6) = true := by decide +kernel

theorem test_step_T204_bsr : stepsTo 
    { (before [0xAD#8, 0xFE#8]) with
      sp := 0x00FD#16
      ccr := flagsOf 0b001000#6 }
    (fun t => t.sp == 0x00FB#16 && t.mem.read 0x00FD == 0x02#8 && t.mem.read 0x00FC == 0xEE#8 &&
      t.pc == 0xEE00#16 && t.ccr == flagsOf 0b001000#6) = true := by decide +kernel

theorem test_step_T210_rts : stepsTo 
    { (before [0x81#8]) with
      sp := 0x00FD#16
      ccr := flagsOf 0b001000#6
      mem := ((before [0x81#8]).mem.write 0x00FE 0xEE#8).write 0x00FF 0x02#8 }
    (fun t => t.sp == 0x00FF#16 && t.pc == 0xEE02#16 && t.ccr == flagsOf 0b001000#6) = true := by decide +kernel

theorem test_step_T211_rti : stepsTo 
    { (before [0x80#8]) with
      h := 0x77#8
      x := 0x00#8
      sp := 0x00FA#16
      ccr := flagsOf 0b001000#6
      mem := (((((before [0x80#8]).mem.write 0x00FB 0x82#8).write 0x00FC 0x11#8).write 0x00FD 0x22#8).write 0x00FE 0xEE#8).write 0x00FF 0x04#8 }
    (fun t => t.a == 0x11#8 && t.hx == 0x7722#16 && t.sp == 0x00FF#16 &&
      t.pc == 0xEE04#16 && t.ccr == flagsOf 0b100010#6) = true := by decide +kernel

theorem test_step_T217_bset : stepsTo 
    { (before [0x18#8, 0x80#8]) with
      ccr := flagsOf 0b001000#6
      mem := (before [0x18#8, 0x80#8]).mem.write 0x0080 0x00#8 }
    (fun t => t.mem.read 0x0080 == 0x10#8 && t.pc == 0xEE02#16 && t.ccr == flagsOf 0b001000#6) = true := by decide +kernel

theorem test_step_T223_bclr : stepsTo 
    { (before [0x15#8, 0x80#8]) with
      ccr := flagsOf 0b001000#6
      mem := (before [0x15#8, 0x80#8]).mem.write 0x0080 0xFF#8 }
    (fun t => t.mem.read 0x0080 == 0xFB#8 && t.pc == 0xEE02#16 && t.ccr == flagsOf 0b001000#6) = true := by decide +kernel

theorem test_step_T230_swi : stepsTo 
    { (before [0x83#8]) with
      a := 0x11#8
      h := 0x33#8
      x := 0x22#8
      ccr := flagsOf 0b100101#6
      mem := ((before [0x83#8]).mem.write 0xFFFC 0xEE#8).write 0xFFFD 0x80#8 }
    (fun t => t.sp == 0x00FA#16 && t.mem.read 0x00FF == 0x01#8 && t.mem.read 0x00FE == 0xEE#8 &&
      t.mem.read 0x00FD == 0x22#8 && t.mem.read 0x00FC == 0x11#8 && t.mem.read 0x00FB == 0xE5#8 && t.pc == 0xEE80#16 && t.ccr == flagsOf 0b101101#6) = true := by decide +kernel

theorem test_step_T231_swi : stepsTo 
    { (before [0x83#8]) with
      a := 0x00#8
      h := 0x00#8
      x := 0x00#8
      ccr := flagsOf 0b001000#6
      mem := ((before [0x83#8]).mem.write 0xFFFC 0xEE#8).write 0xFFFD 0x80#8 }
    (fun t => t.sp == 0x00FA#16 && t.mem.read 0x00FF == 0x01#8 && t.mem.read 0x00FE == 0xEE#8 &&
      t.mem.read 0x00FD == 0x00#8 && t.mem.read 0x00FC == 0x00#8 && t.mem.read 0x00FB == 0x68#8 && t.pc == 0xEE80#16 && t.ccr == flagsOf 0b001000#6) = true := by decide +kernel

theorem test_step_T239_sei : stepsTo 
    { (before [0x9B#8]) with
      ccr := flagsOf 0b000000#6 }
    (fun t => t.pc == 0xEE01#16 && t.ccr == flagsOf 0b001000#6) = true := by decide +kernel

theorem test_step_T247_illegal : stepsTo 
    { (before [0x9E#8, 0x65#8]) with
      ccr := flagsOf 0b001000#6 }
    (fun t => t.sim.srsr.getLsbD 4 && t.sp == 0x00FF#16) = true := by decide +kernel

/-! ### The agents: rules of spec/20_memory.md and spec/60_exceptions.md, by hand -/

/-- R38: a forced monitor entry after an illegal opcode leaves ILOP and MODRST in SRSR. -/
theorem test_modrst : stepsTo (before [0x32#8]) (fun t => t.sim.srsr == 0x14#8 && t.mode == .monitor) = true := by
  decide +kernel

/-- In monitor mode, in the command loop, at an address that holds no part of RUN. -/
def witMonitor : State :=
  { State.reset with
    pc := 0xFEFC#16
    sim := { Sim.reset with securityDone := true, cop := 5#6, counter := 0xABC#12, copTime := 9 }
    link := { State.reset.link with entries := [.made] } }

theorem witMonitor_loop : witMonitor.inCommandLoop = true := by
  have h := monitorRunAt_range
  have h1 : decide (0xFEFC ≠ monitorRunAt) = true := by simp; omega
  have h2 : decide (0xFEFC ≠ monitorRunAt + 1) = true := by simp; omega
  show (true && true && decide (0xFEFC ≠ monitorRunAt) && decide (0xFEFC ≠ monitorRunAt + 1)) = true
  rw [h1, h2]
  rfl

/-- A served command answers a next state of which `p` holds. -/
def serves (s : State) (c : HostCommand) (p : State → Bool) : Bool :=
  match s.serveHost c with
  | .next t => p t
  | .fault _ => false
  | .refused _ => false

/-- R70: the monitor's WRITE to $FFFF services the COP and changes no FLASH. -/
theorem test_host_write_copctl : serves witMonitor (.write 0xFFFF#16 0x12#8) (fun t =>
    t.sim.cop == 0#6 && t.sim.counter == 0x00C#12 && t.sim.copTime == 0 && t.byteAt 0xFFFF#16 == 0xFF#8) = true := by
  decide +kernel

/-- R58, R358: READ of SRSR answers it and clears it. -/
theorem test_host_read_srsr : serves witMonitor (.read 0xFE01#16) (fun t =>
    t.link.answer == [0x80#8] && t.link.last == 0xFE01#16 && t.sim.srsr == 0x00#8) = true := by decide +kernel

/-- R59, D10: a command at a reserved address is refused, at an unimplemented one it stops as a CPU's access does. -/
theorem test_host_outside_map :
    witMonitor.serveHost (.write 0x0040#16 0x12#8) = .refused (.reservedAccess 0x0040#16) ∧
      witMonitor.serveHost (.read 0x0100#16) = .fault (.unimplementedAccess 0x0100#16) := ⟨rfl, rfl⟩

/-- R313, R359: the key is compared with FLASH; before it no command is heard, after it no key. -/
theorem test_security_once :
    let s := { witMonitor with sim := Sim.reset }
    s.hears .readSp = false ∧ witMonitor.hears (.securityKey []) = false ∧
      serves s (.securityKey (List.replicate 8 0xFF#8)) (fun t => t.sim.monitorUnlocked && t.sim.securityDone) = true ∧
      serves s (.securityKey [0x00#8]) (fun t => !t.sim.monitorUnlocked && t.sim.securityDone) = true := by
  refine ⟨?_, by decide +kernel, by decide +kernel, by decide +kernel⟩
  exact Bool.and_false _

/-- R358: no command is heard before the entry's SWI and PSHH, outside the monitor ROM, in user mode, or in WAIT. -/
theorem test_host_elsewhere :
    State.reset.hears .run = false ∧ ({ witMonitor with link := State.reset.link } : State).hears .run = false ∧
      ({ witMonitor with pc := 0xEE00#16 } : State).hears .run = false ∧
      ({ witMonitor with mode := .user } : State).hears .run = false ∧
      ({ witMonitor with run := .waiting } : State).hears .run = false :=
  ⟨Bool.and_false _, rfl, rfl, rfl, rfl⟩

/-- R358: SWI and PSHH in monitor mode make the entry, RUN takes it back. -/
theorem test_monitor_entry :
    let l := (State.reset.link.follow .monitor .swi).follow .monitor .pshh
    l.entries = [.made] ∧ (State.reset.link.follow .user .swi).entries = [] ∧
      serves witMonitor .run (fun t => t.link.entries == []) = true := by decide +kernel

/-- R358: a break between an entry's SWI and PSHH makes an entry of its own; after its RUN the PSHH ends the outer one. -/
theorem test_monitor_entry_nested :
    let l := ((State.reset.link.follow .monitor .swi).follow .monitor .swi).follow .monitor .pshh
    l.entries = [.made, .begun] ∧
      ({ l with entries := l.entries.tail } : HostLink).follow .monitor .pshh =
        { l with entries := [.made] } := by decide +kernel

/-- R47, R360, R372: an erased vector with VTST on /IRQ, /RST low: forced monitor mode on the internal oscillator. -/
theorem test_forced_vtst :
    let t := ({ State.reset with pins := { State.reset.pins with irqVtst := true, pta := 0b000100#6 } } : State).resetSequence 0x40#8
    t.mode = .monitor ∧ t.mods.osc.source = .internal := by decide +kernel

/-- R66, R69: port B changes between the read and the write of one BSET, which writes back what it read. -/
theorem test_agents_inside : stepsTo
    { before [0x10#8, 0x01#8] with
      midInputs := [[], [.pins 0b000000#6 0x00#8 false]] }
    (fun t => t.mods.ports.ptbData == 0xFF#8 && t.pins.ptb == 0x00#8 && t.midInputs == []) = true := by decide +kernel

/-- R296: in STOP neither the timer nor the ADC advances. -/
theorem test_stop_holds_modules :
    let s := { State.reset with run := .stopped }
    let m := { s.mods with tim := { s.mods.tim with counter := 0x1234#16 }, adc := { s.mods.adc with data := 0x12#8 } }
    (s.deliver (.modules m)).mods = s.mods := by
  decide +kernel

/-- R363: at the overflow a compare channel with toggle-on-overflow toggles its pin, a channel that is off does not. -/
theorem test_toggle_on_overflow :
    let tim := { Modules.reset.tim with
      modulo := 0x0000#16
      ch0 := { TimChannel.reset with mode := .compare .set, value := 0x00FF#16, toggleOnOverflow := true }
      ch1 := { TimChannel.reset with toggleOnOverflow := true } }
    (timTick true true (tim, 0b000000#6)).2 = 0b000001#6 ∧ (timTick true true (tim, 0b000000#6)).1.overflow = true := by
  decide +kernel

/-- R364: the sample taken is what the conversion delivers; a single conversion is then over. -/
theorem test_adc :
    let s := { State.reset with
      pins := { State.reset.pins with ad2 := 0x55#8 }
      mods := { Modules.reset with adc := { Modules.reset.adc with channel := some 2#2, converting := true } } }
    let t := (s.deliver .adcSample).deliver .adcDone
    t.mods.adc.data = 0x55#8 ∧ t.mods.adc.flag = true ∧ t.mods.adc.converting = false := by
  decide +kernel

/-- R365: a pin that the ADC owns is no keyboard input. -/
theorem test_pin_priority :
    let kbi := { Modules.reset.kbi with pinEnable := 0b000001#6 }
    let s := { State.reset with mods := { Modules.reset with kbi := kbi } }
    let o := { s with mods := { s.mods with adc := { s.mods.adc with channel := some 0#2 } } }
    (s.deliver (.pins 0b111110#6 0x00#8 false)).mods.kbi.flag = true ∧
      (o.deliver (.pins 0b111110#6 0x00#8 false)).mods.kbi.flag = false := by
  decide +kernel

/-- R318, R369: while the LVI holds the chip in reset nothing counts, and the rise of VDD ends in a reset. -/
theorem test_lvi_hold :
    let s := { State.reset with pins := { State.reset.pins with vddLow := true } }
    (s.deliver (.clocks 262128)).sim = s.sim ∧ ((s.deliver (.modules Modules.reset)).deliver (.supply false)).resetPending = 0x02#8 := by
  decide +kernel

/-- R373: an erased vector with VTST on /IRQ and other levels than R360's first row. -/
theorem test_erased_vtst :
    ({ State.reset with pins := { State.reset.pins with irqVtst := true } } : State).entryMode = .monitor := by
  decide +kernel

/-- R314, R318: a low /RST and a low VDD within one batch reset the chip, both recorded, though the levels have gone. -/
theorem test_forced_resets : stepsTo
    { before [0x9D#8] with
      sim := { (before [0x9D#8]).sim with rstForced := true }
      inputs := [[.supply true, .supply false, .pins 0b110111#6 0x00#8 false, .pins 0b111111#6 0x00#8 false]] }
    (fun t => t.sim.srsr == 0x46#8 && t.sp == 0x00FF#16) = true := by decide +kernel

/-! ### Witnesses: a state and operands that meet the hypotheses of each obligation, clause by clause -/

/-- User mode, stack and data in RAM, NOPs at $EE00 and the reset vector there. -/
def wit : State :=
  { before [0x9D#8, 0x9D#8, 0x9D#8, 0x9D#8] with
    a := 0x99#8
    h := 0x00#8
    x := 0x90#8
    sp := 0x00E0#16
    ccr := flagsOf 0b000000#6
    mem := (Memory.writeAll (before [0x9D#8, 0x9D#8, 0x9D#8, 0x9D#8]).mem 0x0090 [0x12#8, 0x34#8]).writeAll 0xFFFE
      [0xEE#8, 0x00#8] }

theorem witness_DecodeOfEncode : (Instr.ldaSp1 0xFF#8).wellFormed = true ∧ (Instr.illegalPage2 0x00#8).wellFormed = true :=
  ⟨rfl, rfl⟩

theorem witness_EncodeOfDecode :
    decode [0xA6#8, 0x20#8, 0x4C#8] = .ok (.ldaImm 0x20#8, [0x4C#8]) ∧ decode [0x9E#8] = .ok (.page2Prefix, []) :=
  ⟨rfl, rfl⟩

theorem witness_IllegalEncodings :
    page2Opcodes.contains 0x5F#8 = false ∧ decode [0x32#8] = .ok (.illegal32, []) ∧
      decode [0x9E#8, 0x70#8] = .ok (.illegalPage2 0x70#8, []) := ⟨rfl, rfl, rfl⟩

theorem witness_ResetSequence :
    (wit.resetSequence 0x10#8).mode = .user ∧ (State.reset.resetSequence 0x80#8).mode = .monitor ∧
      wit.nonVolatileAt 0xFFFF#16 ∧ wit.nonVolatileAt 0x2800#16 ∧ (0x10#8).getLsbD 7 = false ∧ wit.ramAt 0x0080#16 ∧
      wit.ramAt 0x00FF#16 ∧ (0x10#8 &&& 0x62#8 = 0x00#8) ∧ (0x80#8).getLsbD 7 = true ∧ Memory.wf wit.mem = true ∧
      State.reset.monitorLevels = false ∧ State.reset.byteAt 0xFFFE#16 = 0xFF#8 ∧ State.reset.byteAt 0xFFFF#16 = 0xFF#8 ∧
      ¬(wit.byteAt 0xFFFE#16 = 0xFF#8 ∧ wit.byteAt 0xFFFF#16 = 0xFF#8) ∧
      (let s : State := { wit with written := [0x0080#16] }
       (0x20#8).getLsbD 7 = false ∧ 0x20#8 &&& 0x62#8 ≠ 0x00#8 ∧ s.ramAt 0x0080#16 ∧ 0x0080#16 ∈ s.written ∧
         0x0081#16 ∉ s.written) :=
  ⟨rfl, rfl, .inl rfl, .inr rfl, rfl, rfl, rfl, rfl, rfl, by decide +kernel, rfl, rfl, rfl, by decide +kernel, rfl, by decide,
    rfl, by decide, by decide⟩

theorem witness_ResetMode :
    wit.pins.irqVtst = false ∧
      (let s : State := { wit with pins := { wit.pins with irqVtst := true, pta := 0b001010#6 } }
       s.pins.irqVtst = true ∧ s.pins.pta.getLsbD 3 = true ∧ s.pins.pta.getLsbD 1 = true ∧ s.pins.pta.getLsbD 4 = false) ∧
      State.reset.byteAt 0xFFFE#16 = 0xFF#8 ∧ State.reset.byteAt 0xFFFF#16 = 0xFF#8 :=
  ⟨rfl, ⟨rfl, rfl, rfl, rfl⟩, rfl, rfl⟩

theorem witness_ResetIsNotMasked :
    ({ wit with sim := { wit.sim with rstForced := true } } : State).sim.rstEn = true ∧
      (let s : State := { wit with sim := { wit.sim with rstForced := true }, pins := { wit.pins with pta := 0b110111#6 } }
       s.sim.rstEn = true ∧ s.pins.pta.getLsbD 3 = false) ∧
      (0b110111#6).getLsbD 3 = false ∧
      wit.sim.config1.getLsbD 4 = false ∧ wit.sim.config1.getLsbD 5 = false ∧
      (let s : State := { wit with run := .stopped, sim := { wit.sim with config1 := 0x40#8 } }
       s.run = .stopped ∧ s.sim.config1.getLsbD 6 = true) ∧
      wit.run ≠ .stopped ∧ wit.lviForces = false ∧ wit.copRuns = true ∧ wit.sim.copTimeout ≤ wit.sim.copTime + 262128 ∧
      ({ State.reset with inputs := [[.powerOn]] } : State).takeInputs.resetPending ≠ 0x00#8 ∧
      ({ State.reset with inputs := [[.powerOn]] } : State).ccr.i = true ∧ wit.sim.stopEnabled = false ∧
      ({ wit with pc := 0x0100#16 } : State).takeInputs.quiet ∧
      region wit.cfg ({ wit with pc := 0x0100#16 } : State).takeInputs.pc.toNat = .unimplemented :=
  ⟨rfl, ⟨rfl, rfl⟩, rfl, rfl, rfl, ⟨rfl, rfl⟩, by decide, rfl, rfl, by decide, by decide +kernel, rfl, rfl,
    ⟨rfl, rfl, rfl, rfl, rfl⟩, rfl⟩

theorem witness_IllegalOpcodeReset : wit.sim.stopEnabled = false ∧ wit.plainAt 0x0080#16 ∧ wit.plainAt 0xFFFF#16 :=
  ⟨rfl, .inl rfl, .inr (.inr rfl)⟩

theorem witness_IllegalAddressReset :
    ({ wit with pc := 0x0100#16 } : State).takeInputs.quiet ∧
      region wit.cfg ({ wit with pc := 0x0100#16 } : State).takeInputs.pc.toNat = .unimplemented ∧
      ({ wit with pc := 0x0040#16 } : State).takeInputs.quiet ∧
      region wit.cfg ({ wit with pc := 0x0040#16 } : State).takeInputs.pc.toNat = .reserved ∧
      ({ wit with pc := 0x003F#16 } : State).takeInputs.quiet ∧
      region wit.cfg ({ wit with pc := 0x003F#16 } : State).takeInputs.pc.toNat = .device ∧
      region wit.cfg (0x0100#16 : Word).toNat = .unimplemented ∧ region wit.cfg (0x27FF#16 : Word).toNat = .unimplemented :=
  ⟨⟨rfl, rfl, rfl, rfl, rfl⟩, rfl, ⟨rfl, rfl, rfl, rfl, rfl⟩, rfl, ⟨rfl, rfl, rfl, rfl, rfl⟩, rfl, rfl, rfl⟩

theorem witness_StepRunsDecoded :
    wit.takeInputs.quiet ∧ Instr.nop.wellFormed = true ∧
      decode [wit.byteAt 0xEE00#16, wit.byteAt 0xEE01#16, wit.byteAt 0xEE02#16, wit.byteAt 0xEE03#16] =
        .ok (.nop, [0x9D#8, 0x9D#8, 0x9D#8]) ∧ wit.takeInputs.pc = 0xEE00#16 ∧ (encode .nop).length = 1 ∧
      wit.plainAt 0xEE00#16 ∧ wit.takeInputs.justStored = [] :=
  ⟨⟨rfl, rfl, rfl, rfl, rfl⟩, rfl, rfl, rfl, rfl, .inr (.inr rfl), rfl⟩

theorem witness_LowPower :
    ({ wit with sim := { wit.sim with config1 := 0x02#8 } } : State).sim.stopEnabled = true ∧
      (let q := ({ wit with run := .waiting } : State).takeInputs
       q.run ≠ .running ∧ q.resetPending = 0x00#8 ∧ q.breakPending = false ∧ q.interruptPending = none) :=
  ⟨rfl, by decide, rfl, rfl, rfl⟩

theorem witness_StepKeepsInvariant : wit.Inv ∧ ∃ t, step wit = .next t :=
  ⟨⟨by decide +kernel, rfl, rfl, rfl, fun h => absurd rfl h, fun h => (nomatch (show RunState.running = .stopped from h)),
    fun _ => rfl⟩, _, rfl⟩

theorem witness_FlashAndRomKept : (∃ t, step wit = .next t) ∧ wit.nonVolatileAt 0xEE00#16 ∧ wit.nonVolatileAt 0xFE10#16 :=
  ⟨⟨_, rfl⟩, .inl rfl, .inr rfl⟩

/-- A user-mode program that resets a part whose reset vector is erased: it comes up in monitor mode. -/
theorem witness_ModeChangesAtReset : ∃ t, step (before [0x32#8]) = .next t ∧ t.mode ≠ (before [0x32#8]).mode :=
  ⟨_, rfl, by decide +kernel⟩

/-- The first row of the memory map, whatever follows it. -/
theorem witness_MemoryMap :
    (∀ rest, ((0x0000, 0x003F, Region.device) : Nat × Nat × Region) ∈ (0x0000, 0x003F, Region.device) :: rest) ∧
      0x0000 ≤ 0x003F ∧ 0x003F ≤ 0x003F := ⟨fun _ => List.mem_cons_self, by decide, by decide⟩

theorem witness_ReadOneByte :
    wit.plainAt 0x0080#16 ∧ wit.plainAt 0x00FF#16 ∧ wit.canRead 0x0000#16 = true ∧ wit.canRead 0x003F#16 = true ∧
      region wit.cfg 0x0100 = .unimplemented ∧ region wit.cfg 0x27FF = .unimplemented ∧
      region wit.cfg 0x0040 = .reserved ∧ region wit.cfg 0x007F = .reserved :=
  ⟨.inl rfl, .inl rfl, rfl, rfl, rfl, rfl, rfl, rfl⟩

theorem witness_WriteOneByte :
    Memory.wf wit.mem = true ∧ wit.canWrite 0x0080#16 = true ∧ wit.canWrite 0x00FF#16 = true ∧
      wit.canWrite 0xFFFF#16 = true ∧ region wit.cfg 0x0100 = .unimplemented ∧ region wit.cfg 0x0040 = .reserved ∧
      (let s : State := { wit with sim := { wit.sim with flashBusy := true } }
       s.nonVolatileAt 0xFFFE#16 ∧ (0xFFFE#16 : Word) ≠ 0xFFFF#16 ∧ s.sim.flashBusy = true) :=
  ⟨by decide +kernel, rfl, rfl, rfl, rfl, rfl, .inl rfl, by decide, rfl⟩

theorem witness_SystemRegisters :
    wit.sim.config1Written = false ∧
      ({ wit with sim := { wit.sim with config1Written := true } } : State).sim.config1Written = true := ⟨rfl, rfl⟩

theorem witness_PushAndPull :
    Memory.wf wit.mem = true ∧ wit.canWrite wit.sp = true ∧ wit.ramAt wit.sp ∧ wit.plainAt (wit.sp + 1) ∧
      ({ wit with sp := 0x0080#16 } : State).ramAt 0x0080#16 ∧ ({ wit with sp := 0x00FE#16 } : State).plainAt 0x00FF#16 :=
  ⟨by decide +kernel, rfl, rfl, .inl rfl, rfl, .inl rfl⟩

theorem witness_Watchdog :
    wit.run ≠ .stopped ∧ wit.lviForces = false ∧ wit.copRuns = true ∧ wit.sim.config1.getLsbD 7 = false ∧ 2 ^ 18 - 2 ^ 4 - 1 < 2 ^ 18 - 2 ^ 4 ∧
      ({ wit with run := .stopped } : State).run = .stopped ∧
      ({ wit with sim := { wit.sim with config1 := 0x01#8 } } : State).sim.config1.getLsbD 0 = true ∧
      ({ wit with brk := { wit.brk with phase := .serving } } : State).brk.phase = .serving ∧
      (let s : State := { wit with mode := .monitor, pins := { wit.pins with irqVtst := true } }
       s.mode = .monitor ∧ s.pins.irqVtst = true) ∧
      ({ wit with pins := { wit.pins with vddLow := true } } : State).lviForces = true :=
  ⟨by decide, rfl, rfl, rfl, by decide, rfl, rfl, rfl, ⟨rfl, rfl⟩, rfl⟩

theorem witness_ExceptionFrame :
    Memory.wf wit.mem = true ∧ wit.frameInRam ∧ wit.nonVolatileAt 0xFFFC#16 ∧ wit.nonVolatileAt 0xFFFD#16 ∧
      wit.nonVolatileAt 0xFEFC#16 ∧ wit.nonVolatileAt 0xFEFD#16 :=
  ⟨by decide +kernel, ⟨rfl, rfl, rfl, rfl, rfl⟩, .inl rfl, .inl rfl, .inr rfl, .inr rfl⟩

/-- A request at the /IRQ pin is latched and not masked. -/
def witIrq : State := { wit with mods := { wit.mods with irq := { wit.mods.irq with latch := true } } }

theorem witness_InterruptEntry :
    let q := witIrq.takeInputs
    q.resetPending = 0x00#8 ∧ q.breakPending = false ∧ q.interruptPending = some .irq ∧ Memory.wf q.mem = true ∧
      q.frameInRam := ⟨rfl, rfl, rfl, by decide +kernel, rfl, rfl, rfl, rfl, rfl⟩

/-- A keyboard request while the CPU is stopped. -/
def witKey : State :=
  { wit with run := .stopped, mods := { wit.mods with kbi := { wit.mods.kbi with flag := true } } }

theorem witness_InterruptChoice :
    wit.sim.intLatch = none ∧ ({ wit with ccr := { wit.ccr with i := true } } : State).ccr.i = true ∧
      ({ wit with irqHold := true } : State).irqHold = true ∧ witIrq.ccr.i = false ∧ witIrq.irqHold = false ∧
      witIrq.run ≠ .stopped ∧ witIrq.interruptPending = some .irq ∧ IntSource.irq.number < IntSource.adc.number ∧
      witKey.sim.intLatch = none ∧ witKey.ccr.i = false ∧ witKey.irqHold = false ∧ witKey.run = .stopped ∧
      witKey.interruptPending = some .keyboard ∧
      ({ witIrq with mods := { witIrq.mods with irq := { witIrq.mods.irq with mask := true } } } : State).interruptPending =
        none :=
  ⟨rfl, rfl, rfl, rfl, rfl, by decide, rfl, by decide, rfl, rfl, rfl, rfl, rfl, rfl⟩

theorem witness_BreakEntry :
    (let q := ({ wit with inputs := [[.forceBreak]] } : State).takeInputs
     q.resetPending = 0x00#8 ∧ q.breakPending = true ∧ Memory.wf q.mem = true ∧ q.frameInRam) ∧
      (let q := ({ wit with brk := { wit.brk with enable := true, addr := 0xEE00#16 } } : State).takeInputs
       q.resetPending = 0x00#8 ∧ q.brk.request = false ∧ q.breakPending = true ∧
         Memory.wf q.mem = true ∧ q.frameInRam) :=
  ⟨⟨rfl, rfl, by decide +kernel, rfl, rfl, rfl, rfl, rfl⟩, rfl, rfl, rfl, by decide +kernel, rfl, rfl, rfl, rfl, rfl⟩

theorem witness_SoftwareInterrupt : Memory.wf wit.mem = true ∧ wit.frameInRam :=
  ⟨by decide +kernel, rfl, rfl, rfl, rfl, rfl⟩

theorem witness_ReturnFromInterrupt :
    wit.frameAbove ∧
      (let q := ({ witMonitor with link := { witMonitor.link with command := some .run } } : State).takeInputs
       q.resetPending = 0x00#8 ∧ q.breakPending = false ∧ q.interruptPending = none ∧ q.run = .running ∧
         q.dueCommand = some .run) := by
  refine ⟨⟨.inl rfl, .inl rfl, .inl rfl, .inl rfl, .inl rfl⟩, rfl, rfl, rfl, rfl, ?_⟩
  show (if witMonitor.inCommandLoop && true then some HostCommand.run else none) = _
  rw [witMonitor_loop]
  rfl

theorem witness_SwiThenRti : Memory.wf wit.mem = true ∧ wit.frameInRam := witness_SoftwareInterrupt

/-- An operand of each kind that can be read, with its value: what the statements over `Operand` ask for. -/
theorem witness_operand :
    ((Operand.imm 0x40#8).readable wit ∧ (Operand.imm 0x40#8).value wit = (0x40#8, wit)) ∧
      (Operand.mem .ix).readable wit ∧ (Operand.mem .ix).value wit = (0x12#8, wit) := ⟨⟨trivial, rfl⟩, rfl, rfl⟩

theorem witness_DirectExtendedIndexed :
    wit.plainAt (0x00#8 ++ 0x90#8) ∧ wit.plainAt 0xEE00#16 ∧ wit.plainAt (wit.h ++ wit.x) :=
  ⟨.inl rfl, .inr (.inr rfl), .inl rfl⟩

theorem witness_LoadRegister : (Operand.mem .ix).readable wit ∧ (Operand.mem .ix).value wit = (0x12#8, wit) := witness_operand.2

theorem witness_AddForms : (Operand.mem .ix).readable wit ∧ (Operand.mem .ix).value wit = (0x12#8, wit) := witness_operand.2

theorem witness_SubtractForms : (Operand.mem .ix).readable wit ∧ (Operand.mem .ix).value wit = (0x12#8, wit) :=
  witness_operand.2

theorem witness_LogicForms : (Operand.mem .ix).readable wit ∧ (Operand.mem .ix).value wit = (0x12#8, wit) := witness_operand.2

theorem witness_CompareThenBranch : (Operand.mem .ix).readable wit ∧ (Operand.mem .ix).value wit = (0x12#8, wit) :=
  witness_operand.2

theorem witness_LoadStoreIndex :
    ((Operand16.dir 0x90#8).readable wit ∧ (Operand16.dir 0x90#8).value wit = (0x1234#16, wit) ∧
      (Operand16.imm 0x1234#16).readable wit ∧ (Operand16.imm 0x1234#16).value wit = (0x1234#16, wit)) ∧
      wit.canWrite (zext16 0xFE#8) = true ∧ wit.canWrite (zext16 0xFE#8 + 1) = true ∧ Memory.wf wit.mem = true :=
  ⟨⟨⟨rfl, rfl⟩, rfl, trivial, rfl⟩, rfl, rfl, by decide +kernel⟩

theorem witness_CompareIndex : (Operand16.dir 0x90#8).readable wit ∧ (Operand16.dir 0x90#8).value wit = (0x1234#16, wit) :=
  ⟨witness_LoadStoreIndex.1.1, witness_LoadStoreIndex.1.2.1⟩

theorem witness_StoreRegister : wit.canWrite (AddrMode.ix.ea wit) = true ∧ Memory.wf wit.mem = true :=
  ⟨rfl, by decide +kernel⟩

theorem witness_RegisterTransfers :
    wit.cfg.stackXferAdj = false ∧ State.reset.cfg.stackXferAdj = true := ⟨rfl, rfl⟩

theorem witness_MoveByte :
    wit.canWrite (zext16 0x80#8) = true ∧ wit.canRead (zext16 0x90#8) = true ∧
      wit.busRead (zext16 0x90#8) = (0x12#8, wit) ∧ wit.canRead wit.hx = true ∧ wit.busRead wit.hx = (0x12#8, wit) ∧
      wit.canWrite wit.hx = true ∧ Memory.wf wit.mem = true := ⟨rfl, rfl, rfl, rfl, rfl, rfl, by decide +kernel⟩

theorem witness_PushPullRegister :
    (wit.canWrite wit.sp = true ∧ Memory.wf wit.mem = true) ∧ wit.canRead (wit.sp + 1) = true ∧
      ({ wit with sp := wit.sp + 1 } : State).busRead (wit.sp + 1) = (0x00#8, { wit with sp := wit.sp + 1 }) :=
  ⟨⟨rfl, by decide +kernel⟩, rfl, rfl⟩

/-- What the statements over read-modify-write forms ask for. -/
theorem witness_memForm :
    wit.canWrite (MemForm.ix.mode.ea wit) = true ∧ wit.busRead (MemForm.ix.mode.ea wit) = (0x12#8, wit) ∧
      Memory.wf wit.mem = true := ⟨rfl, rfl, by decide +kernel⟩

theorem witness_ClearAndTestForms :
    (wit.canWrite (MemForm.ix.mode.ea wit) = true ∧ Memory.wf wit.mem = true) ∧
      wit.canRead (MemForm.ix.mode.ea wit) = true ∧ wit.busRead (MemForm.ix.mode.ea wit) = (0x12#8, wit) :=
  ⟨⟨witness_memForm.1, witness_memForm.2.2⟩, rfl, rfl⟩

theorem witness_IncrementDecrement :
    wit.canWrite (MemForm.ix.mode.ea wit) = true ∧ wit.busRead (MemForm.ix.mode.ea wit) = (0x12#8, wit) ∧
      Memory.wf wit.mem = true := witness_memForm

theorem witness_NegateComplement :
    wit.canWrite (MemForm.ix.mode.ea wit) = true ∧ wit.busRead (MemForm.ix.mode.ea wit) = (0x12#8, wit) ∧
      Memory.wf wit.mem = true := witness_memForm

/-- The first entry of the statement's list, whatever follows it. -/
theorem witness_ShiftForms :
    (∀ rest, (lslForm, Instr.lsla, Instr.lslx, (fun m : Byte => BitVec.ofNat 8 (2 * m.toNat)),
        (fun m : Byte => decide (128 ≤ m.toNat))) ∈
      (lslForm, Instr.lsla, Instr.lslx, (fun m : Byte => BitVec.ofNat 8 (2 * m.toNat)),
        (fun m : Byte => decide (128 ≤ m.toNat))) :: rest) ∧
      wit.canWrite (MemForm.ix.mode.ea wit) = true ∧ wit.busRead (MemForm.ix.mode.ea wit) = (0x12#8, wit) ∧
      Memory.wf wit.mem = true := ⟨fun _ => List.mem_cons_self, witness_memForm⟩

theorem witness_Divide :
    ({ wit with h := 0x8F#8 } : State).h.toNat < wit.x.toNat ∧ wit.x.toNat ≤ ({ wit with h := 0x90#8 } : State).h.toNat :=
  ⟨by decide, by decide⟩

/-- $99 plus $99 plus a carry leaves $33 with C and Hf set, a row of the table; $44 with C set is in no row. -/
theorem witness_DecimalAdjust :
    (let s : State := { wit with a := 0x33#8, ccr := flagsOf 0b010001#6 }
     (16 * (99 / 10) + 99 % 10 + (16 * (99 / 10) + 99 % 10) + 1) % 256 = s.a.toNat ∧ s.ccr.c = true ∧
       255 < 16 * (99 / 10) + 99 % 10 + (16 * (99 / 10) + 99 % 10) + 1 ∧ s.ccr.h = true ∧ 15 < 99 % 10 + 99 % 10 + 1) ∧
      (let s : State := { wit with a := 0x44#8, ccr := flagsOf 0b000001#6 }
       s.ccr.c = true ∧ s.ccr.h = false ∧ 2 < s.a.toNat / 16) :=
  ⟨⟨rfl, rfl, by decide, rfl, by decide⟩, rfl, rfl, by decide⟩

theorem witness_DecimalAddition : 99 < 100 ∧ wit.a = BitVec.ofNat 8 (16 * (99 / 10) + 99 % 10) := ⟨by decide, rfl⟩

/-- The first entry of the statement's list, whatever follows it. -/
theorem witness_SimpleBranches : ∀ rest, (Instr.bra, true) ∈ (Instr.bra, true) :: rest := fun _ => List.mem_cons_self

theorem witness_BitBranches : wit.canRead (zext16 0x90#8) = true ∧ wit.busRead (zext16 0x90#8) = (0x12#8, wit) := ⟨rfl, rfl⟩

theorem witness_BitModify :
    wit.canWrite (zext16 0x90#8) = true ∧ wit.busRead (zext16 0x90#8) = (0x12#8, wit) ∧ Memory.wf wit.mem = true :=
  ⟨rfl, rfl, by decide +kernel⟩

theorem witness_CompareAndBranch :
    (wit.canRead (zext16 0x90#8) = true ∧ wit.busRead (zext16 0x90#8) = (0x12#8, wit)) ∧
      (wit.canRead (wit.sp + zext16 0x01#8) = true ∧ wit.busRead (wit.sp + zext16 0x01#8) = (0x00#8, wit)) ∧
      (wit.canRead wit.hx = true ∧ wit.busRead wit.hx = (0x12#8, wit)) ∧
      (wit.canRead (wit.hx + zext16 0x01#8) = true ∧ wit.busRead (wit.hx + zext16 0x01#8) = (0x34#8, wit)) :=
  ⟨⟨rfl, rfl⟩, ⟨rfl, rfl⟩, ⟨rfl, rfl⟩, rfl, rfl⟩

theorem witness_DecrementAndBranch :
    wit.canWrite (MemForm.ix.mode.ea wit) = true ∧ wit.busRead (MemForm.ix.mode.ea wit) = (0x12#8, wit) ∧
      Memory.wf wit.mem = true := witness_memForm

theorem witness_CallAndReturn :
    (∃ f : JumpForm, Instr.jsrExt 0xEE40#16 = jsrForm f ∧ 0xEE40#16 = f.mode.ea wit) ∧
      (∃ rr : Byte, Instr.bsr 0xFE#8 = .bsr rr ∧ 0xEDFE#16 = wit.pc + rr.signExtend 16) ∧ Memory.wf wit.mem = true ∧
      wit.ramAt wit.sp ∧ wit.ramAt (wit.sp - 1) ∧ wit.plainAt (wit.sp + 1) ∧ wit.plainAt (wit.sp + 2) :=
  ⟨⟨.ext 0xEE40#16, rfl, rfl⟩, ⟨0xFE#8, rfl, rfl⟩, by decide +kernel, rfl, rfl, .inl rfl, .inl rfl⟩

theorem witness_PrefixRunsPage2 :
    let s : State := { before [0xE6#8, 0x01#8, 0x9D#8] with sp := 0x00E0#16 }
    s.plainAt s.pc ∧ s.plainAt (s.pc + 1) ∧ s.plainAt (s.pc + 2) ∧
      decode [0x9E#8, s.byteAt s.pc, s.byteAt (s.pc + 1), s.byteAt (s.pc + 2)] = .ok (.ldaSp1 0x01#8, [0x9D#8]) ∧
      s.byteAt s.pc = 0xE6#8 ∧ s.plainAt (s.sp + zext16 (s.byteAt (s.pc + 1))) :=
  ⟨.inr (.inr rfl), .inr (.inr rfl), .inr (.inr rfl), rfl, rfl, .inl rfl⟩

end Sys2Proof.Tests
end

/-! SUPPORT. What LDA does in every form, and the effective address of direct, extended and indexed addressing without
offset (spec/30_encoding.md R88 to R90). -/

namespace Sys2Proof.Machine

/-! ### Addresses -/

/-- Page zero: a byte with $00 before it is the byte zero-extended (R88). -/
theorem zero_append_eq_zext16 (dd : Byte) : (0x00#8 ++ dd : Word) = zext16 dd :=
  (BitVec.setWidth_eq_append (by decide)).symm

/-! ### LDA -/

/-- Every form of LDA is the load of A from its operand. -/
theorem exec_ldaForm (o : Operand) (s : State) : exec (ldaForm o) s = loadA o s := by
  cases o with
  | imm ii => rfl
  | mem m => cases m <;> rfl

/-- A load from memory depends on its addressing mode through the effective address alone. -/
theorem loadA_eq_of_ea_eq {m m' : AddrMode} {s : State} (h : m.ea s = m'.ea s) :
    loadA (.mem m) s = loadA (.mem m') s := by
  simp only [loadA, State.withOperand, h]

/-- A load from RAM, ROM or FLASH. -/
theorem loadA_plain {m : AddrMode} {s : State} (h : s.plainAt (m.ea s)) :
    loadA (.mem m) s = .next ((s.setA (s.byteAt (m.ea s))).setCcr (s.ccr.moved8 (s.byteAt (m.ea s)))) := by
  have hread : (Operand.mem m).readable s := State.canRead_of_plainAt h
  have hvalue : (Operand.mem m).value s = (s.byteAt (m.ea s), s) := State.busRead_plain h
  rw [loadA, State.withOperand_ok hread, hvalue]

/-- LDA from RAM, ROM or FLASH: A takes the byte at the effective address, H and X keep theirs. -/
theorem exec_ldaForm_plain {m : AddrMode} {s : State} (h : s.plainAt (m.ea s)) :
    ∃ t, exec (ldaForm (.mem m)) s = .next t ∧ t.a = s.byteAt (m.ea s) ∧ t.h = s.h ∧ t.x = s.x :=
  ⟨_, (exec_ldaForm _ s).trans (loadA_plain h), rfl, rfl, rfl⟩

/-- LDA with an extended address in page zero is LDA with the direct address (R88, R89). -/
theorem exec_ldaExt_pageZero (dd : Byte) (s : State) :
    exec (.ldaExt (0x00#8 ++ dd)) s = exec (.ldaDir dd) s :=
  calc exec (.ldaExt (0x00#8 ++ dd)) s
      = loadA (.mem (.ext (0x00#8 ++ dd))) s := exec_ldaForm (.mem (.ext _)) s
    _ = loadA (.mem (.dir dd)) s := loadA_eq_of_ea_eq (zero_append_eq_zext16 dd)
    _ = exec (.ldaDir dd) s := (exec_ldaForm (.mem (.dir dd)) s).symm

/-- Settles O32: each mode's address by its definition, the access by `exec_ldaForm_plain`. -/
theorem directExtendedIndexed : Obligations.DirectExtendedIndexed := by
  intro s dd hhll
  refine ⟨⟨?direct, rfl, fun hp => ?directAccess⟩, ⟨rfl, rfl, fun hp => ?extendedAccess, ?pageZero⟩,
    rfl, rfl, fun hp => ?indexedAccess⟩
  case direct => exact (zero_append_eq_zext16 dd).symm
  case directAccess =>
    rw [zero_append_eq_zext16] at hp ⊢
    obtain ⟨t, hexec, ha, -, -⟩ := exec_ldaForm_plain (m := .dir dd) hp
    exact ⟨t, hexec, ha⟩
  case extendedAccess =>
    obtain ⟨t, hexec, ha, -, -⟩ := exec_ldaForm_plain (m := .ext hhll) hp
    exact ⟨t, hexec, ha⟩
  case pageZero => exact exec_ldaExt_pageZero dd s
  case indexedAccess => exact exec_ldaForm_plain (m := .ix) hp

end Sys2Proof.Machine

/-! SUPPORT. Addresses in FLASH or ROM as vectors of an exception entry (spec/20_memory.md R51), and the frame every entry
leaves. -/

namespace Sys2Proof.Machine

/-! ### Vectors in FLASH or ROM -/

/-- FLASH and ROM are plain bytes. -/
theorem State.plainAt_of_nonVolatileAt {s : State} {a : Word} (h : s.nonVolatileAt a) : s.plainAt a :=
  .inr h.symm

/-- No FLASH or ROM lies below $2800. -/
theorem State.le_toNat_of_nonVolatileAt {s : State} {a : Word} (h : s.nonVolatileAt a) : 0x2800 ≤ a.toNat :=
  region_nonVolatile_high h

/-- A word in FLASH or ROM does not begin at $FFFF: its second byte would be the device register at $0000. -/
theorem State.toNat_lt_of_nonVolatileAt_succ {s : State} {a : Word} (h : s.nonVolatileAt (a + 1)) :
    a.toNat < 0xFFFF := by
  have hhigh := State.le_toNat_of_nonVolatileAt h
  bv_omega

/-! ### The frame -/

/-- Settles O24: a vector in FLASH or ROM is plain and lies above RAM, so `State.withException_ram` gives the frame. -/
theorem exceptionFrame : Obligations.ExceptionFrame := by
  intro s vector k hwf hframe hvector hvector'
  have habove : 0x100 ≤ vector.toNat := Nat.le_trans (by decide) (State.le_toNat_of_nonVolatileAt hvector)
  obtain ⟨t, hentry, ⟨hpcl, hpch, hx, ha, hccr, hsp, -⟩, -, -⟩ :=
    State.withException_ram k hwf hframe (State.plainAt_of_nonVolatileAt hvector)
      (State.plainAt_of_nonVolatileAt hvector') habove (State.toNat_lt_of_nonVolatileAt_succ hvector')
  exact ⟨t, hentry, hpcl, hpch, hx, ha, hccr, hsp⟩

end Sys2Proof.Machine

/-! SUPPORT. The opcode maps of the decoder against the encoder (spec/30_encoding.md R98 to R105). -/

namespace Sys2Proof

/-! ### Decoding by format -/

/-- On page 1 the first byte selects the format (R105). -/
theorem decode_page1 {b : Byte} (hb : (b == 0x9E#8) = false) (bs : List Byte) :
    decode (b :: bs) = (page1 b).complete bs :=
  if_neg (by simpa using hb)

/-- Behind $9E the second byte selects the format, or nothing (R103, R104). -/
theorem decode_page2 (b : Byte) (bs : List Byte) :
    decode (0x9E#8 :: b :: bs) = match page2 b with
      | some f => f.complete bs
      | none => .ok (.illegalPage2 b, bs) := rfl

/-- A page-1 opcode with no operand byte. -/
theorem decode_op0 {b : Byte} {i : Instr} (hb : (b == 0x9E#8) = false) (h : page1 b = .op0 i) (rest : List Byte) :
    decode ([b] ++ rest) = .ok (i, rest) := by
  rw [List.cons_append, decode_page1 hb, h]
  rfl

/-- A page-1 opcode with one operand byte. -/
theorem decode_op1 {b : Byte} {g : Byte → Instr} (hb : (b == 0x9E#8) = false) (h : page1 b = .op1 g) (v : Byte)
    (rest : List Byte) :
    decode ([b, v] ++ rest) = .ok (g v, rest) := by
  rw [List.cons_append, decode_page1 hb, h]
  rfl

/-- A page-1 opcode with a 16-bit field. -/
theorem decode_op16 {b : Byte} {g : Word → Instr} (hb : (b == 0x9E#8) = false) (h : page1 b = .op16 g) (w : Word)
    (rest : List Byte) : decode ([b, hiByte w, loByte w] ++ rest) = .ok (g w, rest) := by
  rw [List.cons_append, decode_page1 hb, h]
  exact congrArg (fun v => Except.ok (g v, rest)) (Machine.joinBytes_hi_lo w)

/-- A page-1 opcode with two operand bytes. -/
theorem decode_op2 {b : Byte} {g : Byte → Byte → Instr} (hb : (b == 0x9E#8) = false) (h : page1 b = .op2 g) (v w : Byte)
    (rest : List Byte) : decode ([b, v, w] ++ rest) = .ok (g v w, rest) := by
  rw [List.cons_append, decode_page1 hb, h]
  rfl

/-- A page-2 opcode with one operand byte. -/
theorem decode_page2_op1 {b : Byte} {g : Byte → Instr} (h : page2 b = some (.op1 g)) (v : Byte) (rest : List Byte) :
    decode ([0x9E#8, b, v] ++ rest) = .ok (g v, rest) := by
  simp only [List.cons_append, List.nil_append, decode_page2, h]
  rfl

/-- A page-2 opcode with a 16-bit field. -/
theorem decode_page2_op16 {b : Byte} {g : Word → Instr} (h : page2 b = some (.op16 g)) (w : Word) (rest : List Byte) :
    decode ([0x9E#8, b, hiByte w, loByte w] ++ rest) = .ok (g w, rest) := by
  simp only [List.cons_append, List.nil_append, decode_page2, h]
  exact congrArg (fun v => Except.ok (g v, rest)) (Machine.joinBytes_hi_lo w)

/-- A page-2 opcode with two operand bytes. -/
theorem decode_page2_op2 {b : Byte} {g : Byte → Byte → Instr} (h : page2 b = some (.op2 g)) (v w : Byte)
    (rest : List Byte) : decode ([0x9E#8, b, v, w] ++ rest) = .ok (g v w, rest) := by
  simp only [List.cons_append, List.nil_append, decode_page2, h]
  rfl

/-- The second bytes that select nothing are those outside the list of R103. -/
theorem page2_eq_none_iff (b : Byte) : page2 b = none ↔ page2Opcodes.contains b = false := by
  have hkeys : (page2Row6 ++ page2RowD ++ page2RowE).map Prod.fst = page2Opcodes := rfl
  rw [page2, List.lookup_eq_none_iff, ← hkeys, Bool.eq_false_iff, ne_eq, List.contains_iff_mem]
  simp only [List.mem_map, not_exists, not_and, bne_iff_ne]
  exact ⟨fun h p hp e => h p hp e.symm, fun h p hp e => h p hp e.symm⟩

/-- $9E before a second byte that selects nothing (R104). -/
theorem decode_illegalPage2 {b : Byte} (h : page2Opcodes.contains b = false) (rest : List Byte) :
    decode (0x9E#8 :: b :: rest) = .ok (.illegalPage2 b, rest) := by
  rw [decode_page2, (page2_eq_none_iff b).2 h]

/-! ### The bit instructions, whose opcode carries the bit number (R85) -/

/-- Every bit number has its opcode in each of the four families, and none of them is $9E. -/
theorem page1_bitOpcode (n : BitVec 3) :
    page1 (bitOpcode 0x00#8 n) = .op2 (.brset n) ∧ page1 (bitOpcode 0x01#8 n) = .op2 (.brclr n) ∧
    page1 (bitOpcode 0x10#8 n) = .op1 (.bset n) ∧ page1 (bitOpcode 0x11#8 n) = .op1 (.bclr n) := by
  have hn : n = 0#3 ∨ n = 1#3 ∨ n = 2#3 ∨ n = 3#3 ∨ n = 4#3 ∨ n = 5#3 ∨ n = 6#3 ∨ n = 7#3 := by
    revert n
    decide
  rcases hn with rfl | rfl | rfl | rfl | rfl | rfl | rfl | rfl <;> exact ⟨rfl, rfl, rfl, rfl⟩

theorem bitOpcode_ne_page2 (n : BitVec 3) :
    (bitOpcode 0x00#8 n == 0x9E#8) = false ∧ (bitOpcode 0x01#8 n == 0x9E#8) = false ∧
    (bitOpcode 0x10#8 n == 0x9E#8) = false ∧ (bitOpcode 0x11#8 n == 0x9E#8) = false := by
  revert n; decide

/-- Settles O1: every constructor has the format that the opcode of its encoding selects. -/
theorem decodeOfEncode : Obligations.DecodeOfEncode := by
  intro i rest hwf
  cases i
  case brset n dd rr => exact decode_op2 (bitOpcode_ne_page2 n).1 (page1_bitOpcode n).1 dd rr rest
  case brclr n dd rr => exact decode_op2 (bitOpcode_ne_page2 n).2.1 (page1_bitOpcode n).2.1 dd rr rest
  case bset n dd => exact decode_op1 (bitOpcode_ne_page2 n).2.2.1 (page1_bitOpcode n).2.2.1 dd rest
  case bclr n dd => exact decode_op1 (bitOpcode_ne_page2 n).2.2.2 (page1_bitOpcode n).2.2.2 dd rest
  case page2Prefix => cases hwf
  case illegalPage2 b => exact decode_illegalPage2 (Bool.not_eq_true' _ ▸ hwf) rest
  case bra | brn | bhi | bls | bcc | bcs | bne | beq | bhcc | bhcs | bpl | bmi | bmc | bms | bil | bih | negDir |
      comDir | lsrDir | sthx | rorDir | asrDir | lslDir | rolDir | decDir | incDir | tstDir | clrDir | dbnza |
      ldhxDir | dbnzx | movDixPlus | negIx1 | comIx1 | lsrIx1 | rorIx1 | asrIx1 | lslIx1 | rolIx1 | decIx1 | incIx1
      | tstIx1 | clrIx1 | cbeqIxPlus | cphxDir | dbnzIx | movIxPlusD | bge | blt | bgt | ble | subImm | cmpImm |
      sbcImm | cpxImm | andImm | bitImm | ldaImm | ais | eorImm | adcImm | oraImm | addImm | bsr | ldxImm | aix |
      subDir | cmpDir | sbcDir | cpxDir | andDir | bitDir | ldaDir | staDir | eorDir | adcDir | oraDir | addDir |
      jmpDir | jsrDir | ldxDir | stxDir | subIx1 | cmpIx1 | sbcIx1 | cpxIx1 | andIx1 | bitIx1 | ldaIx1 | staIx1 |
      eorIx1 | adcIx1 | oraIx1 | addIx1 | jmpIx1 | jsrIx1 | ldxIx1 | stxIx1 =>
    exact decode_op1 rfl rfl _ rest
  case cbeqDir | dbnzDir | cbeqa | movDd | cbeqx | cbeqIx1Plus | dbnzIx1 | movImd =>
    exact decode_op2 rfl rfl _ _ rest
  case illegal32 | illegal3E | nega | mul | coma | lsra | rora | asra | lsla | rola | deca | inca | tsta | clra |
      negx | div | comx | lsrx | rorx | asrx | lslx | rolx | decx | incx | tstx | clrx | nsa | negIx | daa | comIx |
      lsrIx | rorIx | asrIx | lslIx | rolIx | decIx | incIx | tstIx | clrIx | rti | rts | illegal82 | swi | tap |
      tpa | pula | psha | pulx | pshx | pulh | pshh | clrh | illegal8D | stop | wait | txs | tsx | illegal96 | tax |
      clc | sec | cli | sei | rsp | nop | txa | illegalAC | subIx | cmpIx | sbcIx | cpxIx | andIx | bitIx | ldaIx |
      staIx | eorIx | adcIx | oraIx | addIx | jmpIx | jsrIx | ldxIx | stxIx =>
    exact decode_op0 rfl rfl rest
  case ldhxImm | cphxImm | subExt | cmpExt | sbcExt | cpxExt | andExt | bitExt | ldaExt | staExt | eorExt | adcExt |
      oraExt | addExt | jmpExt | jsrExt | ldxExt | stxExt | subIx2 | cmpIx2 | sbcIx2 | cpxIx2 | andIx2 | bitIx2 |
      ldaIx2 | staIx2 | eorIx2 | adcIx2 | oraIx2 | addIx2 | jmpIx2 | jsrIx2 | ldxIx2 | stxIx2 =>
    exact decode_op16 rfl rfl _ rest
  case negSp1 | comSp1 | lsrSp1 | rorSp1 | asrSp1 | lslSp1 | rolSp1 | decSp1 | incSp1 | tstSp1 | clrSp1 | subSp1 |
      cmpSp1 | sbcSp1 | cpxSp1 | andSp1 | bitSp1 | ldaSp1 | staSp1 | eorSp1 | adcSp1 | oraSp1 | addSp1 | ldxSp1 |
      stxSp1 =>
    exact decode_page2_op1 rfl _ rest
  case cbeqSp1 | dbnzSp1 =>
    exact decode_page2_op2 rfl _ _ rest
  case subSp2 | cmpSp2 | sbcSp2 | cpxSp2 | andSp2 | bitSp2 | ldaSp2 | staSp2 | eorSp2 | adcSp2 | oraSp2 | addSp2 |
      ldxSp2 | stxSp2 =>
    exact decode_page2_op16 rfl _ rest


/-! ### Encoding what was decoded -/

@[simp] theorem hiByte_joinBytes (h l : Byte) : hiByte (joinBytes h l) = h := BitVec.extractLsb'_append_eq_left

@[simp] theorem loByte_joinBytes (h l : Byte) : loByte (joinBytes h l) = l := BitVec.extractLsb'_append_eq_right

/-- The term is encoded as these bytes and stands for bytes of memory, unless the opcode is $9E read alone (R103). -/
def Instr.EncodesAs (i : Instr) (pre operand : List Byte) : Prop :=
  encode i = pre ++ operand ∧ (pre ≠ [0x9E#8] → i.wellFormed = true)

/-- What a format makes is encoded as the opcode bytes `pre` and the operand bytes it was made of (R81, R83). -/
def Format.Encodes (f : Format) (pre : List Byte) : Prop :=
  match f with
  | .op0 i => i.EncodesAs pre []
  | .op1 g => ∀ v, (g v).EncodesAs pre [v]
  | .op16 g => ∀ w, (g w).EncodesAs pre [hiByte w, loByte w]
  | .op2 g => ∀ v w, (g v w).EncodesAs pre [v, w]

/-- The listed formats encode as the opcodes from `b` up to `e`. -/
def RowEncodes (b e : Nat) : List Format → Prop
  | [] => b = e
  | f :: fs => f.Encodes [BitVec.ofNat 8 b] ∧ RowEncodes (b + 1) e fs

theorem RowEncodes.append {b c e : Nat} {fs gs : List Format} (h : RowEncodes b c fs) (h' : RowEncodes c e gs) :
    RowEncodes b e (fs ++ gs) := by
  induction fs generalizing b with
  | nil =>
    subst h
    exact h'
  | cons f fs ih => exact ⟨h.1, ih h.2⟩

/-- The format at place `k` encodes as opcode `b + k`. -/
theorem RowEncodes.get {b e k : Nat} {fs : List Format} (d : Format) (h : RowEncodes b e fs) (hk : b + k < e) :
    (fs.getD k d).Encodes [BitVec.ofNat 8 (b + k)] := by
  induction fs generalizing b k with
  | nil =>
    subst h
    omega
  | cons f fs ih =>
    obtain ⟨hf, hfs⟩ := h
    cases k with
    | zero => exact hf
    | succ k =>
      rw [← Nat.add_assoc, Nat.add_right_comm] at hk ⊢
      exact ih hfs hk

/-! Each row of page 1 encodes as the map lists it (R99 to R102). -/

theorem page1Row0_encodes : RowEncodes 0x00 0x10 page1Row0 := by
  simp [RowEncodes, page1Row0, Format.Encodes, Instr.EncodesAs, encode, bitOpcode, Instr.wellFormed]

theorem page1Row1_encodes : RowEncodes 0x10 0x20 page1Row1 := by
  simp [RowEncodes, page1Row1, Format.Encodes, Instr.EncodesAs, encode, bitOpcode, Instr.wellFormed]

theorem page1Row2_encodes : RowEncodes 0x20 0x30 page1Row2 := by
  simp [RowEncodes, page1Row2, Format.Encodes, Instr.EncodesAs, encode, Instr.wellFormed]

theorem page1Row3_encodes : RowEncodes 0x30 0x40 page1Row3 := by
  simp [RowEncodes, page1Row3, Format.Encodes, Instr.EncodesAs, encode, Instr.wellFormed]

theorem page1Row4_encodes : RowEncodes 0x40 0x50 page1Row4 := by
  simp [RowEncodes, page1Row4, Format.Encodes, Instr.EncodesAs, encode, Instr.wellFormed]

theorem page1Row5_encodes : RowEncodes 0x50 0x60 page1Row5 := by
  simp [RowEncodes, page1Row5, Format.Encodes, Instr.EncodesAs, encode, Instr.wellFormed]

theorem page1Row6_encodes : RowEncodes 0x60 0x70 page1Row6 := by
  simp [RowEncodes, page1Row6, Format.Encodes, Instr.EncodesAs, encode, Instr.wellFormed]

theorem page1Row7_encodes : RowEncodes 0x70 0x80 page1Row7 := by
  simp [RowEncodes, page1Row7, Format.Encodes, Instr.EncodesAs, encode, Instr.wellFormed]

theorem page1Row8_encodes : RowEncodes 0x80 0x90 page1Row8 := by
  simp [RowEncodes, page1Row8, Format.Encodes, Instr.EncodesAs, encode, Instr.wellFormed]

theorem page1Row9_encodes : RowEncodes 0x90 0xA0 page1Row9 := by
  simp [RowEncodes, page1Row9, Format.Encodes, Instr.EncodesAs, encode, Instr.wellFormed]

theorem page1RowA_encodes : RowEncodes 0xA0 0xB0 page1RowA := by
  simp [RowEncodes, page1RowA, Format.Encodes, Instr.EncodesAs, encode, Instr.wellFormed]

theorem page1RowB_encodes : RowEncodes 0xB0 0xC0 page1RowB := by
  simp [RowEncodes, page1RowB, Format.Encodes, Instr.EncodesAs, encode, Instr.wellFormed]

theorem page1RowC_encodes : RowEncodes 0xC0 0xD0 page1RowC := by
  simp [RowEncodes, page1RowC, Format.Encodes, Instr.EncodesAs, encode, Instr.wellFormed]

theorem page1RowD_encodes : RowEncodes 0xD0 0xE0 page1RowD := by
  simp [RowEncodes, page1RowD, Format.Encodes, Instr.EncodesAs, encode, Instr.wellFormed]

theorem page1RowE_encodes : RowEncodes 0xE0 0xF0 page1RowE := by
  simp [RowEncodes, page1RowE, Format.Encodes, Instr.EncodesAs, encode, Instr.wellFormed]

theorem page1RowF_encodes : RowEncodes 0xF0 0x100 page1RowF := by
  simp [RowEncodes, page1RowF, Format.Encodes, Instr.EncodesAs, encode, Instr.wellFormed]

/-- Page 1 encodes as the map lists it. -/
theorem page1Table_encodes : RowEncodes 0x00 0x100 page1Table :=
  ((((((((((((((page1Row0_encodes.append page1Row1_encodes).append page1Row2_encodes).append page1Row3_encodes).append
    page1Row4_encodes).append page1Row5_encodes).append page1Row6_encodes).append page1Row7_encodes).append
    page1Row8_encodes).append page1Row9_encodes).append page1RowA_encodes).append page1RowB_encodes).append
    page1RowC_encodes).append page1RowD_encodes).append page1RowE_encodes).append page1RowF_encodes

/-- Every opcode of page 1 encodes as itself. -/
theorem page1_encodes (b : Byte) : (page1 b).Encodes [b] := by
  have h := page1Table_encodes.get (.op0 .page2Prefix) (k := b.toNat) (by omega)
  rwa [Nat.zero_add, BitVec.ofNat_toNat, BitVec.setWidth_eq] at h

/-- The listed formats encode as $9E and their second byte. -/
def Page2Encodes : List (Byte × Format) → Prop
  | [] => True
  | (b, f) :: l => f.Encodes [0x9E#8, b] ∧ Page2Encodes l

theorem Page2Encodes.append {l l' : List (Byte × Format)} (h : Page2Encodes l) (h' : Page2Encodes l') :
    Page2Encodes (l ++ l') := by
  induction l with
  | nil => exact h'
  | cons p l ih => exact ⟨h.1, ih h.2⟩

theorem Page2Encodes.lookup {l : List (Byte × Format)} {b : Byte} {f : Format} (h : Page2Encodes l)
    (hf : l.lookup b = some f) : f.Encodes [0x9E#8, b] := by
  induction l with
  | nil => cases hf
  | cons p l ih =>
    rw [List.lookup] at hf
    split at hf
    next hb =>
      cases hf
      rw [eq_of_beq hb]
      exact h.1
    next => exact ih h.2 hf

/-! Each row of page 2 encodes as the map lists it (R103). -/

theorem page2Row6_encodes : Page2Encodes page2Row6 := by
  simp [Page2Encodes, page2Row6, Format.Encodes, Instr.EncodesAs, encode, Instr.wellFormed]

theorem page2RowD_encodes : Page2Encodes page2RowD := by
  simp [Page2Encodes, page2RowD, Format.Encodes, Instr.EncodesAs, encode, Instr.wellFormed]

theorem page2RowE_encodes : Page2Encodes page2RowE := by
  simp [Page2Encodes, page2RowE, Format.Encodes, Instr.EncodesAs, encode, Instr.wellFormed]

/-- Every opcode of page 2 encodes as $9E and itself. -/
theorem page2_encodes {b : Byte} {f : Format} (h : page2 b = some f) : f.Encodes [0x9E#8, b] :=
  ((page2Row6_encodes.append page2RowD_encodes).append page2RowE_encodes).lookup h

/-- What a format completes is encoded as the opcode and the bytes it took. -/
theorem Format.Encodes.complete {f : Format} {pre bs rest : List Byte} {i : Instr} (hf : f.Encodes pre)
    (h : f.complete bs = .ok (i, rest)) : encode i ++ rest = pre ++ bs ∧ (pre ≠ [0x9E#8] → i.wellFormed = true) := by
  cases f with
  | op0 j =>
    obtain ⟨he, hwf⟩ := hf
    cases h
    exact ⟨by simp [he], hwf⟩
  | op1 g =>
    rcases bs with _ | ⟨v, bs⟩ <;> cases h
    obtain ⟨he, hwf⟩ := hf v
    exact ⟨by simp [he], hwf⟩
  | op16 g =>
    rcases bs with _ | ⟨v, _ | ⟨w, bs⟩⟩ <;> cases h
    obtain ⟨he, hwf⟩ := hf (joinBytes v w)
    exact ⟨by simp [he], hwf⟩
  | op2 g =>
    rcases bs with _ | ⟨v, _ | ⟨w, bs⟩⟩ <;> cases h
    obtain ⟨he, hwf⟩ := hf v w
    exact ⟨by simp [he], hwf⟩

/-- Settles O2: each format encodes as the map lists it, and the bytes it completes are the bytes it keeps. -/
theorem encodeOfDecode : Obligations.EncodeOfDecode := by
  intro bs i rest h
  rcases bs with _ | ⟨b0, bs⟩
  case nil => cases h
  case cons =>
    by_cases hb : b0 = 0x9E#8
    case neg =>
      rw [decode_page1 (beq_eq_false_iff_ne.2 hb)] at h
      obtain ⟨he, hwf⟩ := (page1_encodes b0).complete h
      exact ⟨he, .inl (hwf (by simpa using hb))⟩
    case pos =>
      subst hb
      rcases bs with _ | ⟨b1, bs⟩
      case nil =>
        cases h
        exact ⟨rfl, .inr ⟨rfl, rfl⟩⟩
      case cons =>
        rw [decode_page2] at h
        cases hp : page2 b1 with
        | none =>
          rw [hp] at h
          cases h
          exact ⟨rfl, .inl (congrArg not ((page2_eq_none_iff b1).1 hp))⟩
        | some f =>
          rw [hp] at h
          obtain ⟨he, hwf⟩ := (page2_encodes hp).complete h
          exact ⟨he, .inl (hwf (by simp))⟩

/-! ### Illegal encodings -/

/-- The instructions of the six illegal bytes of page 1 encode as those bytes (R104). -/
theorem encode_illegal {i : Instr}
    (h : i ∈ [Instr.illegal32, .illegal3E, .illegal82, .illegal8D, .illegal96, .illegalAC]) :
    ∃ b ∈ [0x32#8, 0x3E#8, 0x82#8, 0x8D#8, 0x96#8, 0xAC#8], encode i = [b] := by
  simp only [List.mem_cons, List.not_mem_nil, or_false] at h
  rcases h with rfl | rfl | rfl | rfl | rfl | rfl <;> exact ⟨_, by decide, rfl⟩

/-- 215 second bytes select nothing (R104). -/
theorem page2_illegal_count :
    ((List.range 256).filter fun k => !page2Opcodes.contains (BitVec.ofNat 8 k)).length = 215 := by
  decide +kernel

/-- Settles O3: the other direction by O2, since a decoded instruction encodes as the bytes it came from. -/
theorem illegalEncodings : Obligations.IllegalEncodings := by
  refine ⟨fun rest => ⟨rfl, rfl, rfl, rfl, rfl, rfl⟩, fun b1 rest h => decode_illegalPage2 h rest,
    page2_illegal_count, ?page1, ?page2⟩
  case page1 =>
    intro b0 bs rest i h hi
    obtain ⟨b, hb, he⟩ := encode_illegal hi
    obtain ⟨hbytes, -⟩ := encodeOfDecode _ _ _ h
    rw [he] at hbytes
    rwa [(List.cons.inj hbytes).1] at hb
  case page2 =>
    intro b0 b1 bs rest h
    obtain ⟨hbytes, hwf⟩ := encodeOfDecode _ _ _ h
    refine ⟨(List.cons.inj hbytes).1.symm, ?_⟩
    rcases hwf with hwf | ⟨hi, -⟩
    · exact Bool.not_eq_true' _ ▸ hwf
    · cases hi

/-- Settles O4: each word by evaluation. -/
theorem sampleWords : Obligations.SampleWords :=
  ⟨rfl, rfl, rfl, rfl, rfl, rfl, rfl, rfl, rfl, rfl, rfl, rfl, rfl⟩

end Sys2Proof

/-! SUPPORT. What a step may do, sorted for the statements about every step: an effect, a reset, an idle boundary, or
the beginning of a sleep (spec/10_state.md R35, R36; spec/60_exceptions.md R326). -/

namespace Sys2Proof.Machine

/-- The SIM's latch emptied: what an interrupt entry leaves of it (R328). -/
def State.emptyLatch (s : State) : State := s.setSim { s.sim with intLatch := none }

/-- What a step may do at a boundary `q`, with an answer `t`. -/
inductive StepEffect (q t : State) : Prop
  /-- A command, a break or an instruction leaves the CPU running. -/
  | ran (e : Effect q t) (hrun : t.run = .running)
  /-- So does an interrupt, which empties the SIM's latch. -/
  | interrupted (e : Effect q.emptyLatch t) (hrun : t.run = .running)
  /-- A reset by a cause of R312. -/
  | reset {u : State} {causes : Byte} (e : Effect q u) (ht : t = u.resetSequence causes)
      (hcauses : q.sim.resetReq &&& 0x05#8 = 0x00#8 → causes &&& 0x05#8 = 0x00#8)
  /-- Nothing is due while the CPU sleeps. -/
  | idle (ht : t = q)
  /-- A WAIT, or a STOP that is enabled. -/
  | sleep {u : State} {r : RunState} (e : Effect q u) (hrun : u.run = .running)
      (ht : t = (u.setCcr { u.ccr with i := false }).setRun r) (hstop : r = .stopped → u.sim.stopEnabled = true)

/-- A break entry leaves the CPU running. -/
theorem State.enterBreak_effect {q t : State} (h : q.enterBreak = .next t) : Effect q t ∧ t.run = .running := by
  obtain ⟨u, v, e, -, h⟩ := State.withException_next h
  cases h
  have e' : Effect q u := (Effect.refl q).across e rfl rfl rfl rfl rfl
  exact ⟨e'.registers _ rfl rfl rfl rfl fun _ => rfl, rfl⟩

/-- An interrupt entry leaves the CPU running and the latch empty. -/
theorem State.enterInterrupt_effect {q t : State} {src : IntSource} (h : q.enterInterrupt src = .next t) :
    Effect q.emptyLatch t ∧ t.run = .running := by
  obtain ⟨u, v, e, -, h⟩ := State.withException_next h
  cases h
  exact ⟨⟨e.cfg, e.mode, e.wf, e.kept, e.resetReq, rfl, e.srsr, e.config1, e.config1Kept, fun _ => rfl⟩, rfl⟩

/-- An instruction run from a state that an effect leads to. -/
theorem StepEffect.exec {q u t : State} {i : Instr} (e : Effect q u) (hrun : u.run = .running)
    (h : exec i u = .next t) : StepEffect q t := by
  rcases exec_effect h with e' | ⟨w, e', ht⟩ | ht | ⟨hstop, ht⟩
  · exact .ran (e.trans e') (e'.run hrun)
  · exact .reset (e.trans e') ht fun _ => rfl
  · exact .sleep e hrun ht fun hr => by cases hr
  · exact .sleep e hrun ht fun _ => hstop

/-- Everything a step may do, from the boundary its inputs lead to. -/
theorem step_effect {s t : State} (h : step s = .next t) : StepEffect s.takeInputs t := by
  rcases step_next h with ⟨-, ht⟩ | ⟨-, h⟩ | ⟨-, src, -, h⟩ | ⟨-, -, ht⟩ | ⟨-, hrun, c, -, h⟩ | ⟨-, -, ht⟩ |
    ⟨-, hrun, i, u, e, h⟩
  · exact .reset (Effect.refl _) ht State.resetPending_sources
  · obtain ⟨e, hrun⟩ := State.enterBreak_effect h
    exact .ran e hrun
  · obtain ⟨e, hrun⟩ := State.enterInterrupt_effect h
    exact .interrupted e hrun
  · exact .idle ht
  · have e := State.serveHost_next h
    exact .ran e (e.run hrun)
  · exact .reset (Effect.refl _) ht fun _ => rfl
  · have e' : Effect s.takeInputs ((u.begin i.length).setLink (u.link.follow u.mode i)) := e.regs rfl rfl rfl rfl rfl
    exact .exec e' (e'.run hrun) h

/-! ### FLASH, ROM and the parameters -/

/-- The parameters, and the bytes of FLASH and ROM, are as before. -/
def NonVolatileKept (s t : State) : Prop := t.cfg = s.cfg ∧ ∀ a, s.nonVolatileAt a → t.byteAt a = s.byteAt a

theorem NonVolatileKept.trans {s t u : State} (h : NonVolatileKept s t) (h' : NonVolatileKept t u) :
    NonVolatileKept s u := by
  obtain ⟨hcfg, hkept⟩ := h
  obtain ⟨hcfg', hkept'⟩ := h'
  refine ⟨hcfg'.trans hcfg, fun a ha => (hkept' a ?_).trans (hkept a ha)⟩
  rwa [State.nonVolatileAt, hcfg]

theorem Effect.nonVolatileKept {s t : State} (e : Effect s t) : NonVolatileKept s t := ⟨e.cfg, e.kept⟩

theorem State.resetSequence_nonVolatileKept (s : State) (causes : Byte) :
    NonVolatileKept s (s.resetSequence causes) :=
  ⟨rfl, fun _ => s.resetSequence_kept causes⟩

theorem StepEffect.nonVolatileKept {q t : State} (h : StepEffect q t) : NonVolatileKept q t := by
  cases h with
  | ran e => exact e.nonVolatileKept
  | interrupted e => exact e.nonVolatileKept
  | reset e ht => exact ht ▸ e.nonVolatileKept.trans (State.resetSequence_nonVolatileKept _ _)
  | idle ht => exact ht ▸ ⟨rfl, fun _ _ => rfl⟩
  | sleep e _ ht => exact ht ▸ e.nonVolatileKept

/-- Settles O14: the inputs are an effect, and what a step does after them keeps FLASH and ROM in each of its cases. -/
theorem flashAndRomKept : Obligations.FlashAndRomKept := fun s _ h =>
  s.takeInputs_effect.effect.nonVolatileKept.trans (step_effect h).nonVolatileKept

/-! ### The operating mode -/

theorem StepEffect.mode {q t : State} (h : StepEffect q t) :
    t.mode = q.mode ∨ ∃ u causes, t = State.resetSequence u causes := by
  cases h with
  | ran e => exact .inl e.mode
  | interrupted e => exact .inl e.mode
  | reset _ ht => exact .inr ⟨_, _, ht⟩
  | idle ht => exact .inl (ht ▸ rfl)
  | sleep e _ ht => exact .inl (ht ▸ e.mode)

/-- Settles O15: every case of a step but a reset keeps the mode. -/
theorem modeChangesAtReset : Obligations.ModeChangesAtReset := fun s _ h hmode =>
  (step_effect h).mode.resolve_left fun e => hmode (e.trans s.takeInputs_effect.effect.mode)

/-! ### The invariant -/

/-- The clauses of the invariant that no register takes part in pass along an effect. -/
theorem State.Inv.of_effect {s t : State} (hs : s.Inv) (e : Effect s t) (hasleep : t.run ≠ .running → t.ccr.i = false)
    (hstopped : t.run = .stopped → t.sim.stopEnabled = true ∧ t.sim.config1Written = true) : t.Inv where
  mem := e.wf hs.mem
  srsr := by
    rcases e.srsr with h | h <;> rw [h]
    · exact hs.srsr
    · rfl
  resetReq := e.resetReq hs.resetReq
  latch := e.latch.trans hs.latch
  asleep := hasleep
  stopped := hstopped
  config1 hw := by
    obtain ⟨hw', hc⟩ := e.config1Kept hw
    rw [hc, hs.config1 hw']

/-- An effect that leaves the CPU running keeps the invariant. -/
theorem State.Inv.of_running {s t : State} (hs : s.Inv) (e : Effect s t) (hrun : t.run = .running) : t.Inv :=
  hs.of_effect e (fun h => absurd hrun h) fun h => by rw [hrun] at h; cases h

/-- What the environment does keeps the invariant: a STOP goes on under the CONFIG1 that enabled it. -/
theorem State.Inv.of_env {s t : State} (hs : s.Inv) (h : EnvEffect s t) : t.Inv := by
  refine hs.of_effect h.effect (fun hr => ?_) fun hr => ?_
  · rw [h.ccr, hs.asleep (h.run ▸ hr)]
  · obtain ⟨henabled, hwritten⟩ := hs.stopped (h.run ▸ hr)
    obtain ⟨hwritten', hc⟩ := h.effect.config1 hwritten
    exact ⟨by rwa [Sim.stopEnabled, hc], hwritten'⟩

theorem State.Inv.emptyLatch {s : State} (hs : s.Inv) : s.emptyLatch.Inv :=
  ⟨hs.mem, hs.srsr, hs.resetReq, rfl, hs.asleep, hs.stopped, hs.config1⟩

/-- A reset by causes of R312 leaves SRSR's bit 0 clear. -/
theorem State.resetSequence_srsr_bit0 {s : State} {causes : Byte} (hs : s.sim.srsr &&& 0x01#8 = 0x00#8)
    (hc : causes &&& 0x05#8 = 0x00#8) : (s.resetSequence causes).sim.srsr &&& 0x01#8 = 0x00#8 := by
  show (if causes.getLsbD 7 then _ else _) &&& 0x01#8 = 0x00#8
  split
  · rfl
  · have hc' : causes &&& 0x01#8 = 0x00#8 :=
      calc causes &&& 0x01#8 = causes &&& (0x05#8 &&& 0x01#8) := rfl
        _ = (causes &&& 0x05#8) &&& 0x01#8 := (BitVec.and_assoc _ _ _).symm
        _ = 0x00#8 := by rw [hc]; rfl
    rw [BitVec.and_or_distrib_right, BitVec.and_or_distrib_right, hs, hc']
    split <;> rfl

/-- A reset by causes of R312 keeps the invariant. -/
theorem State.Inv.resetSequence {s : State} {causes : Byte} (hmem : Memory.wf s.mem = true)
    (hs : s.sim.srsr &&& 0x01#8 = 0x00#8) (hc : causes &&& 0x05#8 = 0x00#8) : (s.resetSequence causes).Inv where
  mem := State.memAfterReset_wf causes hmem
  srsr := State.resetSequence_srsr_bit0 hs hc
  resetReq := by show 0x00#8 &&& 0x05#8 = 0x00#8; rfl
  latch := rfl
  asleep h := absurd rfl h
  stopped h := by cases h
  config1 _ := rfl

/-- A sleep that begins after an effect keeps the invariant: CONFIG1 that enables STOP has been written. -/
theorem State.Inv.sleep {u : State} {r : RunState} (hu : u.Inv) (hstop : r = .stopped → u.sim.stopEnabled = true) :
    ((u.setCcr { u.ccr with i := false }).setRun r).Inv where
  mem := hu.mem
  srsr := hu.srsr
  resetReq := hu.resetReq
  latch := hu.latch
  asleep _ := rfl
  stopped hr := by
    have henabled : u.sim.stopEnabled = true := hstop hr
    refine ⟨henabled, eq_true_of_ne_false fun hw => ?_⟩
    rw [Sim.stopEnabled, hu.config1 hw] at henabled
    cases henabled
  config1 := hu.config1

/-- Settles O12: the inputs keep the invariant, and so does each case of what a step may do after them. -/
theorem stepKeepsInvariant : Obligations.StepKeepsInvariant := by
  intro s t hs h
  have hq : s.takeInputs.Inv := hs.of_env s.takeInputs_effect
  cases step_effect h with
  | ran e hrun => exact hq.of_running e hrun
  | interrupted e hrun => exact hq.emptyLatch.of_running e hrun
  | reset e ht hcauses =>
    refine ht ▸ State.Inv.resetSequence (e.wf hq.mem) ?_ (hcauses hq.resetReq)
    rcases e.srsr with h | h <;> rw [h]
    · exact hq.srsr
    · rfl
  | idle ht => exact ht ▸ hq
  | sleep e hrun ht hstop => exact ht ▸ (hq.of_running e hrun).sleep hstop

/-- Settles O13: the machine out of reset runs, with nothing requested and CONFIG1 as a reset leaves it. -/
theorem invariantAtReset : Obligations.InvariantAtReset where
  mem := reset_mem_wf
  srsr := rfl
  resetReq := rfl
  latch := rfl
  asleep h := absurd rfl h
  stopped h := by cases h
  config1 _ := rfl

end Sys2Proof.Machine

/-! SUPPORT. One bus access: what reading keeps, what storing changes, the device registers with an address, $FFFF,
push and pull (spec/20_memory.md R56 to R70, spec/10_state.md R33, R37 to R46). -/

namespace Sys2Proof.Machine

/-! ### Reading -/

/-- What reading, and the devices before it, keep: the CPU registers, memory, the parameters, the operating mode. -/
structure SameCpu (s u : State) : Prop where
  a : u.a = s.a
  h : u.h = s.h
  x : u.x = s.x
  sp : u.sp = s.sp
  pc : u.pc = s.pc
  ccr : u.ccr = s.ccr
  run : u.run = s.run
  mode : u.mode = s.mode
  mem : u.mem = s.mem
  cfg : u.cfg = s.cfg

theorem AgentEffect.sameCpu {s u : State} (e : AgentEffect s u) : SameCpu s u := by
  obtain ⟨_, _, _, _, _, _, _, _, rfl⟩ := e
  exact ⟨rfl, rfl, rfl, rfl, rfl, rfl, rfl, rfl, rfl, rfl⟩

theorem ReadEffect.sameCpu {s u : State} (e : ReadEffect s u) : SameCpu s u := by
  obtain ⟨⟨t, _, _, e, rfl⟩, -⟩ := e
  exact ⟨e.sameCpu.a, e.sameCpu.h, e.sameCpu.x, e.sameCpu.sp, e.sameCpu.pc, e.sameCpu.ccr, e.sameCpu.run,
    e.sameCpu.mode, e.sameCpu.mem, e.sameCpu.cfg⟩

theorem SameCpu.hx {s u : State} (e : SameCpu s u) : u.hx = s.hx := by rw [State.hx, e.h, e.x, State.hx]

theorem SameCpu.wf {s u : State} (e : SameCpu s u) (h : Memory.wf s.mem = true) : Memory.wf u.mem = true := e.mem ▸ h

/-- A read whose byte and state are known is a read effect. -/
theorem ReadEffect.of_busRead {s u : State} {a : Word} {m : Byte} (hv : s.busRead a = (m, u)) : ReadEffect s u := by
  have e := s.busRead_effect a
  rwa [hv] at e

/-- A fetched operand whose byte and state are known is a read effect. -/
theorem ReadEffect.of_value {o : Operand} {s u : State} {m : Byte} (hv : o.value s = (m, u)) : ReadEffect s u := by
  have e := o.value_effect s
  rwa [hv] at e

theorem ReadEffect.of_value16 {o : Operand16} {s u : State} {m : Word} (hv : o.value s = (m, u)) : ReadEffect s u := by
  have e := o.value_effect s
  rwa [hv] at e

/-- A read whose byte and state are known. -/
theorem State.withRead_eq {s u : State} {a : Word} {m : Byte} {k : Byte → State → Out} (h : s.canRead a = true)
    (hv : s.busRead a = (m, u)) : s.withRead a k = k m u := by
  rw [State.withRead_ok h, hv]

/-- An operand whose byte and state are known. -/
theorem State.withOperand_eq {o : Operand} {s u : State} {m : Byte} {k : Byte → State → Out} (h : o.readable s)
    (hv : o.value s = (m, u)) : s.withOperand o k = k m u := by
  rw [State.withOperand_ok h, hv]

theorem State.withOperand16_eq {o : Operand16} {s u : State} {m : Word} {k : Word → State → Out} (h : o.readable s)
    (hv : o.value s = (m, u)) : s.withOperand16 o k = k m u := by
  rw [State.withOperand16_ok h, hv]

/-- A read of RAM, ROM or FLASH. -/
theorem State.withRead_plain {s : State} {a : Word} {k : Byte → State → Out} (h : s.plainAt a) :
    s.withRead a k = k (s.byteAt a) s :=
  State.withRead_eq (State.canRead_of_plainAt h) (State.busRead_plain h)

/-! ### Stops -/

theorem State.canRead_eq_false {s : State} {a : Word}
    (h : region s.cfg a.toNat = .unimplemented ∨ region s.cfg a.toNat = .reserved) : s.canRead a = false := by
  unfold State.canRead accessible
  rcases h with h | h <;> rw [h]

theorem State.canWrite_eq_false {s : State} {a : Word}
    (h : region s.cfg a.toNat = .unimplemented ∨ region s.cfg a.toNat = .reserved) : s.canWrite a = false := by
  unfold State.canWrite
  rcases h with h | h <;> rw [h]

theorem State.noAccess_unimplemented {s : State} {a : Word} (h : region s.cfg a.toNat = .unimplemented) :
    s.noAccess a = .fault (.unimplementedAccess a) := by
  unfold State.noAccess
  rw [h]

theorem State.noAccess_reserved {s : State} {a : Word} (h : region s.cfg a.toNat = .reserved) :
    s.noAccess a = .refused (.reservedAccess a) := by
  unfold State.noAccess
  rw [h]

theorem State.noAccess_nonVolatile {s : State} {a : Word} (h : s.nonVolatileAt a) :
    s.noAccess a = .refused (.flashProgramming a) := by
  unfold State.noAccess
  rcases h with h | h <;> rw [h]

theorem State.withRead_stop {s : State} {a : Word} {k : Byte → State → Out} (h : s.canRead a = false) :
    s.withRead a k = s.noAccess a := if_neg (Bool.eq_false_iff.1 h)

theorem State.withWrite_stop {s : State} {a : Word} {v : Byte} {k : State → Out} (h : s.canWrite a = false) :
    s.withWrite a v k = s.noAccess a := if_neg (Bool.eq_false_iff.1 h)

theorem State.withRead_unimplemented {s : State} {a : Word} (h : region s.cfg a.toNat = .unimplemented)
    (k : Byte → State → Out) : s.withRead a k = .fault (.unimplementedAccess a) := by
  rw [State.withRead_stop (State.canRead_eq_false (.inl h)), State.noAccess_unimplemented h]

theorem State.withWrite_unimplemented {s : State} {a : Word} (h : region s.cfg a.toNat = .unimplemented)
    (v : Byte) (k : State → Out) : s.withWrite a v k = .fault (.unimplementedAccess a) := by
  rw [State.withWrite_stop (State.canWrite_eq_false (.inl h)), State.noAccess_unimplemented h]

/-- FLASH and ROM but for COPCTL cannot be written while FLCR's program or erase bits are set (D11). -/
theorem State.canWrite_flashBusy {s : State} {a : Word} (h : s.nonVolatileAt a) (ha : a ≠ 0xFFFF#16)
    (hbusy : s.sim.flashBusy = true) : s.canWrite a = false := by
  unfold State.canWrite
  rcases h with h | h <;> simp [h, ha, hbusy]

/-- Settles O18: what a read gives at each kind of address. -/
theorem readOneByte : Obligations.ReadOneByte := fun s a k =>
  ⟨State.withRead_plain, State.withRead_ok, s.busRead_effect a, fun h => State.withRead_unimplemented h k, fun h => by
    rw [State.withRead_stop (State.canRead_eq_false (.inr h)), State.noAccess_reserved h]⟩

/-! ### Storing -/

/-- A write to FLASH or ROM but for COPCTL changes nothing (R60, D11). -/
theorem State.busWrite_nonVolatile {s : State} {a : Word} (v : Byte) (h : s.nonVolatileAt a) (ha : a ≠ 0xFFFF#16) :
    s.busWrite a v = s := by
  unfold State.busWrite
  rcases h with h | h <;> simp [h, ha]

/-- A write to $FFFF services the COP, whatever the byte (R70). -/
theorem State.busWrite_copctl (s : State) (v : Byte) : s.busWrite 0xFFFF#16 v = s.serviceCop := by
  unfold State.busWrite
  rw [region_vectors s.cfg (a := (0xFFFF#16).toNat) (by decide)]
  rfl

theorem State.busWrite_nonVolatile_byteAt {s : State} {a : Word} (v : Byte) (h : s.nonVolatileAt a) :
    (s.busWrite a v).byteAt a = s.byteAt a := by
  by_cases ha : a = 0xFFFF#16
  · rw [ha, State.busWrite_copctl]
    rfl
  · rw [State.busWrite_nonVolatile v h ha]

/-- Everything a store can do (R58, R60, R61, R70). -/
theorem State.busWrite_storeEffect {s : State} (a : Word) (v : Byte) (hw : Memory.wf s.mem = true) :
    StoreEffect s a v (s.busWrite a v) := by
  refine ⟨?frame, fun h => s.busWrite_mods a v h, fun b hb => s.busWrite_byteAt_other v hb, fun h => ?ram,
    fun h => ⟨State.busWrite_nonVolatile_byteAt v h, State.busWrite_nonVolatile v h⟩⟩
  case frame =>
    obtain ⟨sim, brk, mods, pins, mid, mem, js, wr, h, -⟩ := s.busWrite_frame a v
    exact ⟨sim, brk, mods, pins, mid, mem, js, wr, h⟩
  case ram =>
    refine ⟨State.busWrite_byteAt_ram v hw h, ?_⟩
    rw [State.busWrite_ram v h]
    exact ⟨rfl, rfl, rfl, rfl, rfl⟩

/-- Settles O19: what a write does at each kind of address. -/
theorem writeOneByte : Obligations.WriteOneByte := fun s a v k hw =>
  ⟨State.withWrite_ok, State.busWrite_storeEffect a v hw, State.busWrite_wf a v hw,
    fun h => State.withWrite_unimplemented h v k,
    fun h => by rw [State.withWrite_stop (State.canWrite_eq_false (.inr h)), State.noAccess_reserved h],
    fun h ha hbusy => by rw [State.withWrite_stop (State.canWrite_flashBusy h ha hbusy), State.noAccess_nonVolatile h]⟩

/-! ### COPCTL -/

theorem State.canWrite_copctl (s : State) : s.canWrite 0xFFFF#16 = true := by
  unfold State.canWrite
  rw [region_vectors s.cfg (a := (0xFFFF#16).toNat) (by decide)]
  exact Bool.or_true _

/-- Stages 12 to 5 of the SIM counter are cleared, stages 4 to 1 are kept. -/
theorem State.serviceCop_counter_getLsbD (s : State) (n : Nat) :
    s.serviceCop.sim.counter.getLsbD n = (decide (n < 4) && s.sim.counter.getLsbD n) := by
  have hlow : ∀ k : Fin 12, (0x00F#12).getLsbD k.val = decide (k.val < 4) := by decide
  have hmask : ∀ n, (0x00F#12).getLsbD n = decide (n < 4) := fun n => by
    by_cases hn : n < 12
    · exact hlow ⟨n, hn⟩
    · rw [BitVec.getLsbD_of_ge _ _ (Nat.le_of_not_lt hn), decide_eq_false (by omega)]
  rw [← hmask, Bool.and_comm]
  exact BitVec.getLsbD_and

/-- A store to a writable address. -/
theorem storeReg_ok {m : AddrMode} {v : Byte} {s : State} (h : s.canWrite (m.ea s) = true) :
    storeReg m v s = .next ((s.busWrite (m.ea s) v).setCcr (s.ccr.moved8 v)) := by
  rw [storeReg, State.withWrite_ok h, State.busWrite_ccr]

/-- Every form of STA stores A at its address. -/
theorem exec_staForm (m : AddrMode) (s : State) : exec (staForm m) s = storeReg m s.a s := by
  cases m <;> rfl

/-- Settles O20: $FFFF is FLASH to a read and COPCTL to a write. -/
theorem copctlTwoFaces : Obligations.CopctlTwoFaces := by
  intro s v kr kw
  have hplain : s.plainAt 0xFFFF#16 := s.plainAt_vector (.inl (by decide))
  refine ⟨State.withRead_plain hplain, s.serviceCop, ?_, rfl, s.serviceCop_counter_getLsbD, rfl,
    s.ccr.moved8 s.a, ?_⟩
  · rw [State.withWrite_ok s.canWrite_copctl, State.busWrite_copctl]
  · calc exec (staForm (.ext 0xFFFF#16)) s = storeReg (.ext 0xFFFF#16) s.a s := exec_staForm _ s
      _ = .next ((s.busWrite 0xFFFF#16 s.a).setCcr (s.ccr.moved8 s.a)) := storeReg_ok s.canWrite_copctl
      _ = .next (s.serviceCop.setCcr (s.ccr.moved8 s.a)) := by rw [State.busWrite_copctl]

/-! ### Device registers -/

/-- The addresses of the device registers (R51). -/
def deviceAddress (a : Word) : Bool :=
  decide (a.toNat < 0x40 ∨ (0xFE00 ≤ a.toNat ∧ a.toNat < 0xFE0D ∧ a.toNat ≠ 0xFE07))

theorem region_deviceAddress {a : Word} (p : Params) (h : deviceAddress a = true) : region p a.toNat = .device :=
  (region_device_iff _ _).2 (of_decide_eq_true h)

/-- A read of a device register, after the devices have acted (R69). -/
theorem State.busRead_device {a : Word} (h : deviceAddress a = true) (s : State) :
    s.busRead a = s.agentsAct.deviceRead a.toNat := by
  unfold State.busRead
  rw [region_deviceAddress s.cfg h]

/-- A write of a device register, after the devices have acted (R69). -/
theorem State.busWrite_device {a : Word} (h : deviceAddress a = true) (s : State) (v : Byte) :
    s.busWrite a v = s.agentsAct.deviceWrite a.toNat v := by
  unfold State.busWrite
  rw [region_deviceAddress s.cfg h]

/-- The registers of the SIM and the BREAK module that no device agent changes. -/
theorem State.agentsAct_registers (s : State) :
    s.agentsAct.sim.srsr = s.sim.srsr ∧ s.agentsAct.sim.config1 = s.sim.config1 ∧
    s.agentsAct.sim.config1Written = s.sim.config1Written ∧ s.agentsAct.brk.addr = s.brk.addr := by
  obtain ⟨_, _, _, _, _, _, _, _, h⟩ := s.agentsAct_step.1
  rw [h]
  exact ⟨rfl, rfl, rfl, rfl⟩

/-- The pending enabled sources of IF1 to IF6 stand at their bits of INT1 (R39). -/
theorem State.int1_getLsbD (s : State) :
    s.int1.getLsbD 2 = s.requests .irq ∧ s.int1.getLsbD 4 = s.requests .tim0 ∧
    s.int1.getLsbD 5 = s.requests .tim1 ∧ s.int1.getLsbD 6 = s.requests .timOverflow := by
  unfold State.int1
  generalize s.requests .irq = irq, s.requests .tim0 = tim0, s.requests .tim1 = tim1,
    s.requests .timOverflow = timOverflow
  revert irq tim0 tim1 timOverflow
  decide

/-- The keyboard stands at bit 7 of INT2, the ADC at bit 0 of INT3 (R39). -/
theorem State.int2_int3_getLsbD (s : State) :
    s.int2.getLsbD 7 = s.requests .keyboard ∧ s.int3.getLsbD 0 = s.requests .adc := by
  unfold State.int2 State.int3
  generalize s.requests .keyboard = keyboard, s.requests .adc = adc
  revert keyboard adc
  decide

/-- CONFIG1 takes the first write after a reset alone (R40). -/
theorem State.busWrite_config1 (s : State) (v : Byte) :
    s.busWrite 0x001F#16 v = if s.sim.config1Written then s.agentsAct else
      s.agentsAct.setSim { s.agentsAct.sim with config1 := v, config1Written := true } := by
  obtain ⟨-, -, hwritten, -⟩ := s.agentsAct_registers
  rw [← hwritten]
  exact s.busWrite_device rfl v

/-- The two halves of the break address (R44). -/
theorem State.busWrite_breakAddress (s : State) (v w : Byte) :
    ((s.busWrite 0xFE09#16 v).busWrite 0xFE0A#16 w).brk.addr = joinBytes v w := by
  rw [State.busWrite_device rfl, State.busWrite_device rfl]
  obtain ⟨-, -, -, haddr⟩ := (s.agentsAct.deviceWrite 0xFE09 v).agentsAct_registers
  show joinBytes (hiByte (s.agentsAct.deviceWrite 0xFE09 v).agentsAct.brk.addr) w = joinBytes v w
  rw [haddr]
  show joinBytes (hiByte (joinBytes v (loByte s.agentsAct.brk.addr))) w = joinBytes v w
  rw [hiByte_joinBytes]

/-- Settles O21: each register by the device read or write at its address, after the devices have acted. -/
theorem systemRegisters : Obligations.SystemRegisters := by
  intro s v w q
  obtain ⟨hsrsr, hconfig1, -, haddr⟩ := s.agentsAct_registers
  obtain ⟨hirq, htim0, htim1, htimOverflow⟩ := q.int1_getLsbD
  obtain ⟨hkeyboard, hadc⟩ := q.int2_int3_getLsbD
  rw [s.busRead_device (a := 0xFE01#16) rfl, s.busRead_device (a := 0x001F#16) rfl,
    s.busRead_device (a := 0xFE09#16) rfl, s.busRead_device (a := 0xFE0A#16) rfl,
    s.busRead_device (a := 0xFE04#16) rfl, s.busRead_device (a := 0xFE05#16) rfl,
    s.busRead_device (a := 0xFE06#16) rfl, s.busWrite_device (a := 0xFE0B#16) rfl,
    s.busWrite_device (a := 0xFE04#16) rfl, s.busWrite_device (a := 0xFE05#16) rfl,
    s.busWrite_device (a := 0xFE06#16) rfl]
  refine ⟨hsrsr, rfl, hconfig1, ?firstWrite, ?laterWrite, s.busWrite_breakAddress v w, congrArg hiByte haddr,
    congrArg loByte haddr, rfl, ⟨hirq, htim0, htim1, htimOverflow, hkeyboard, hadc⟩, rfl, rfl, rfl⟩
  case firstWrite =>
    intro h
    have hfirst : s.busWrite 0x001F#16 v = q.setSim { q.sim with config1 := v, config1Written := true } := by
      rw [State.busWrite_config1, h]
      rfl
    obtain ⟨-, hkept, -, -⟩ := (s.busWrite 0x001F#16 v).agentsAct_registers
    rw [State.busWrite_config1, hfirst]
    rw [hfirst] at hkept
    exact hkept
  case laterWrite =>
    intro h
    rw [State.busWrite_config1, h]
    rfl

/-! ### Push and pull -/

/-- A pull after a push over RAM gives the byte back and the old SP. -/
theorem State.withPush_withPull {s : State} (v : Byte) (k : Byte → State → Out) (hw : Memory.wf s.mem = true)
    (h : s.ramAt s.sp) :
    s.withPush v (fun t => t.withPull k) = k v { s.busWrite s.sp v with sp := s.sp } := by
  have hsp : s.sp - 1 + 1 = s.sp := BitVec.sub_add_cancel _ _
  have hplain : ((s.busWrite s.sp v).setSp (s.sp - 1)).plainAt (s.sp - 1 + 1) := by
    rw [hsp, State.plainAt, State.setSp_cfg, State.busWrite_cfg]
    exact .inl h
  rw [State.withPush_ok (State.canWrite_of_ramAt h), State.withPull_plain hplain]
  show k ((s.busWrite s.sp v).byteAt (s.sp - 1 + 1)) ((s.busWrite s.sp v).setSp (s.sp - 1 + 1)) = _
  rw [hsp, State.busWrite_byteAt_ram v hw h]
  rfl

/-- Settles O22: a push is a store at SP, a pull a read above it. -/
theorem pushAndPull : Obligations.PushAndPull := fun _ v hw =>
  ⟨fun h _ => ⟨State.withPush_ok h, State.busWrite_storeEffect _ _ hw⟩, fun h _ => State.withPull_plain h,
    fun h k => ⟨_, State.busWrite_storeEffect _ _ hw, State.withPush_withPull v k hw h⟩⟩

end Sys2Proof.Machine

/-! SUPPORT. The flag functions and the one-operand operations as the formulas of the spec (spec/10_state.md R26 to R31,
spec/41_arithmetic.md R160 to R181, spec/42_logic.md R200 to R222). -/

namespace Sys2Proof.Machine

/-! ### Bits as arithmetic -/

/-- A bit of a word as a digit of its number. -/
theorem getLsbD_eq_decide_toNat {w : Nat} (x : BitVec w) (i : Nat) : x.getLsbD i = decide (x.toNat / 2 ^ i % 2 = 1) :=
  Nat.testBit_eq_decide_div_mod_eq

/-- The carry or borrow flag as a byte. -/
def carryByte (c : Bool) : Byte := if c then 1#8 else 0#8

theorem carryByte_eq_ofNat (c : Bool) : carryByte c = BitVec.ofNat 8 c.toNat := by cases c <;> rfl

/-! ### N and Z -/

theorem Flags.nz8_eq (f : Flags) (r : Byte) : f.nz8 r = { f with n := r.getLsbD 7, z := decide (r = 0x00#8) } := rfl

theorem Flags.moved8_eq (f : Flags) (r : Byte) :
    f.moved8 r = { f with v := false, n := r.getLsbD 7, z := decide (r = 0x00#8) } := rfl

theorem Flags.moved16_eq (f : Flags) (r : Word) :
    f.moved16 r = { f with v := false, n := r.getLsbD 15, z := decide (r = 0x0000#16) } := rfl

/-! ### Addition -/

theorem add8_r (a m : Byte) (c : Bool) : (add8 a m c).r = a + m + carryByte c := by
  rw [carryByte_eq_ofNat]
  apply BitVec.eq_of_toNat_eq
  simp [add8]

theorem add8_h (a m : Byte) (c : Bool) :
    (add8 a m c).h = ((a.getLsbD 3 && m.getLsbD 3) || (m.getLsbD 3 && !(add8 a m c).r.getLsbD 3) ||
      (!(add8 a m c).r.getLsbD 3 && a.getLsbD 3)) := by
  have hc := Bool.toNat_le c
  simp only [add8, getLsbD_eq_decide_toNat, BitVec.toNat_ofNat]
  rw [Bool.eq_iff_iff]
  simp
  omega

theorem add8_c (a m : Byte) (c : Bool) :
    (add8 a m c).c = ((a.getLsbD 7 && m.getLsbD 7) || (m.getLsbD 7 && !(add8 a m c).r.getLsbD 7) ||
      (!(add8 a m c).r.getLsbD 7 && a.getLsbD 7)) := by
  have hc := Bool.toNat_le c
  simp only [add8, getLsbD_eq_decide_toNat, BitVec.toNat_ofNat]
  rw [Bool.eq_iff_iff]
  simp
  omega

/-! ### Subtraction -/

theorem sub8_r (a m : Byte) (b : Bool) : (sub8 a m b).r = a - m - carryByte b := by
  rw [carryByte_eq_ofNat]
  rfl

theorem sub8_c (a m : Byte) (b : Bool) :
    (sub8 a m b).c = ((!a.getLsbD 7 && m.getLsbD 7) || (m.getLsbD 7 && (sub8 a m b).r.getLsbD 7) ||
      ((sub8 a m b).r.getLsbD 7 && !a.getLsbD 7)) := by
  have hb := Bool.toNat_le b
  simp only [sub8, getLsbD_eq_decide_toNat, BitVec.toNat_ofNat, BitVec.toNat_sub]
  rw [Bool.eq_iff_iff]
  simp
  omega

/-- N xor V of a difference, by the signs: negative minus not negative, or equal signs and a negative difference. -/
theorem xor_subOverflow : ∀ a7 m7 r7 : Bool,
    xor r7 (subOverflow a7 m7 r7) = ((a7 && !m7) || (a7 && m7 && r7) || (!a7 && !m7 && r7)) := by
  decide

/-- After a subtraction without borrow in, C compares as unsigned numbers, N and V as signed ones, Z for equality
(R171). -/
theorem sub8_compares (a m : Byte) :
    (sub8 a m false).c = decide (a.toNat < m.toNat) ∧
    xor ((sub8 a m false).r.getLsbD 7) (sub8 a m false).v = decide (a.toInt < m.toInt) ∧
    ((sub8 a m false).r == 0x00#8) = decide (a = m) := by
  refine ⟨rfl, ?_, ?_⟩
  · simp only [sub8, xor_subOverflow, getLsbD_eq_decide_toNat, BitVec.toInt_eq_toNat_cond, Bool.toNat_false,
      BitVec.toNat_sub, BitVec.toNat_ofNat]
    rw [Bool.eq_iff_iff]
    simp
    split <;> split <;> omega
  · show (a - m - 0#8 == 0x00#8) = _
    rw [Bool.eq_iff_iff, beq_iff_eq, decide_eq_true_eq]
    bv_omega

/-! ### Increment and decrement -/

theorem incOp_eq (m : Byte) (f : Flags) :
    incOp m f = (m + 1#8, { f with v := decide (m = 0x7F#8), n := (m + 1#8).getLsbD 7, z := decide (m = 0xFF#8) }) := by
  have hz : (m + 1#8 == 0x00#8) = decide (m = 0xFF#8) := by
    rw [Bool.eq_iff_iff, beq_iff_eq, decide_eq_true_eq]
    bv_omega
  have hv : (!m.getLsbD 7 && (m + 1#8).getLsbD 7) = decide (m = 0x7F#8) := by
    simp only [getLsbD_eq_decide_toNat, BitVec.toNat_add, BitVec.toNat_ofNat, ← BitVec.toNat_inj]
    rw [Bool.eq_iff_iff]
    simp
    omega
  rw [← hz, ← hv]
  rfl

theorem decOp_eq (m : Byte) (f : Flags) :
    decOp m f = (m - 1#8, { f with v := decide (m = 0x80#8), n := (m - 1#8).getLsbD 7, z := decide (m = 0x01#8) }) := by
  have hz : (m - 1#8 == 0x00#8) = decide (m = 0x01#8) := by
    rw [Bool.eq_iff_iff, beq_iff_eq, decide_eq_true_eq]
    bv_omega
  have hv : (m.getLsbD 7 && !(m - 1#8).getLsbD 7) = decide (m = 0x80#8) := by
    simp only [getLsbD_eq_decide_toNat, BitVec.toNat_sub, BitVec.toNat_ofNat, ← BitVec.toNat_inj]
    rw [Bool.eq_iff_iff]
    simp
    omega
  rw [← hz, ← hv]
  rfl

/-! ### NEG and COM -/

theorem zero_sub_eq_ofNat (m : Byte) : 0x00#8 - m = BitVec.ofNat 8 (256 - m.toNat) := by
  bv_omega

theorem not_eq_ofNat (m : Byte) : ~~~m = BitVec.ofNat 8 (255 - m.toNat) := by
  bv_omega

/-! ### Shifts and rotates -/

/-- The bit that leaves at the top, as a comparison of numbers. -/
theorem getLsbD_seven (m : Byte) : m.getLsbD 7 = decide (128 ≤ m.toNat) := by
  rw [getLsbD_eq_decide_toNat, Bool.eq_iff_iff]
  simp
  omega

/-- The bit that leaves at the bottom, as a remainder. -/
theorem getLsbD_zero (m : Byte) : m.getLsbD 0 = decide (m.toNat % 2 = 1) := by
  rw [getLsbD_eq_decide_toNat, Nat.pow_zero, Nat.div_one]

theorem shiftLeft_eq_ofNat (m : Byte) : m <<< 1 = BitVec.ofNat 8 (2 * m.toNat) := by
  bv_omega

theorem ushiftRight_eq_ofNat (m : Byte) : m >>> 1 = BitVec.ofNat 8 (m.toNat / 2) := by
  bv_omega

/-- The seven upper bits of a byte, moved down. -/
theorem toNat_upperBits (m : Byte) : (m.extractLsb' 1 7).toNat = m.toNat / 2 := by
  simp [Nat.shiftRight_eq_div_pow]
  omega

/-- The seven lower bits of a byte. -/
theorem toNat_lowerBits (m : Byte) : (m.extractLsb' 0 7).toNat = m.toNat % 128 := by
  simp

theorem toNat_append_bit {w : Nat} (x : BitVec w) (b : Bool) :
    (x ++ BitVec.ofBool b).toNat = 2 * x.toNat + b.toNat := by
  have hb : b.toNat < 2 ^ 1 := b.toNat_lt
  rw [BitVec.toNat_append, BitVec.toNat_ofBool, ← Nat.shiftLeft_add_eq_or_of_lt hb, Nat.shiftLeft_eq, Nat.mul_comm]

theorem toNat_bit_append {w : Nat} (x : BitVec w) (b : Bool) :
    (BitVec.ofBool b ++ x).toNat = 2 ^ w * b.toNat + x.toNat := by
  rw [BitVec.toNat_append, BitVec.toNat_ofBool, ← Nat.shiftLeft_add_eq_or_of_lt x.isLt, Nat.shiftLeft_eq,
    Nat.mul_comm]

/-- ROL: the byte doubled, with C below it. -/
theorem rotateLeft_eq_ofNat (m : Byte) (c : Bool) :
    (m.extractLsb' 0 7 ++ BitVec.ofBool c : Byte) = BitVec.ofNat 8 (2 * m.toNat + if c then 1 else 0) := by
  apply BitVec.eq_of_toNat_eq
  rw [toNat_append_bit, toNat_lowerBits, BitVec.toNat_ofNat]
  cases c <;> simp <;> omega

/-- ROR: the byte halved, with C above it. -/
theorem rotateRight_eq_ofNat (m : Byte) (c : Bool) :
    (BitVec.ofBool c ++ m.extractLsb' 1 7 : Byte) = BitVec.ofNat 8 (m.toNat / 2 + if c then 128 else 0) := by
  apply BitVec.eq_of_toNat_eq
  rw [toNat_bit_append, toNat_upperBits, BitVec.toNat_ofNat]
  cases c <;> simp <;> omega

/-- ASR: the signed byte halved, rounded down. -/
theorem arithShiftRight_eq_ofInt (m : Byte) :
    (BitVec.ofBool (m.getLsbD 7) ++ m.extractLsb' 1 7 : Byte) = BitVec.ofInt 8 (m.toInt / 2) := by
  rw [rotateRight_eq_ofNat, getLsbD_seven, BitVec.toInt_eq_toNat_cond]
  apply BitVec.eq_of_toNat_eq
  simp only [BitVec.toNat_ofNat, BitVec.toNat_ofInt, decide_eq_true_eq]
  have := m.isLt
  split <;> split <;> omega

/-- A left shift leaves V = N xor C (R165, R217). -/
theorem Flags.shiftedLeft_eq (f : Flags) (m r : Byte) : f.shiftedLeft m r =
    { f with v := xor (r.getLsbD 7) (decide (128 ≤ m.toNat)), n := r.getLsbD 7, z := decide (r = 0x00#8),
             c := decide (128 ≤ m.toNat) } := by
  rw [← getLsbD_seven]
  rfl

/-- So does a right shift (R168, R210, R220). -/
theorem Flags.shiftedRight_eq (f : Flags) (m r : Byte) : f.shiftedRight m r =
    { f with v := xor (r.getLsbD 7) (decide (m.toNat % 2 = 1)), n := r.getLsbD 7, z := decide (r = 0x00#8),
             c := decide (m.toNat % 2 = 1) } := by
  rw [← getLsbD_zero]
  rfl

end Sys2Proof.Machine

/-! SUPPORT. What each shape of instruction answers, as the whole next state, and the statements about data movement,
arithmetic and logic (spec/40_data_movement.md, spec/41_arithmetic.md, spec/42_logic.md). In a result `{ u with … }` the
state `u` is the one after the operand is fetched. -/

namespace Sys2Proof.Machine

/-! ### Shapes with an operand -/

section
variable {o : Operand} {s u : State} {m : Byte}

theorem loadA_eq (h : o.readable s) (hv : o.value s = (m, u)) :
    loadA o s = .next { u with a := m, ccr := s.ccr.moved8 m } := by
  rw [loadA, State.withOperand_eq h hv, (ReadEffect.of_value hv).sameCpu.ccr]
  rfl

theorem loadX_eq (h : o.readable s) (hv : o.value s = (m, u)) :
    loadX o s = .next { u with x := m, ccr := s.ccr.moved8 m } := by
  rw [loadX, State.withOperand_eq h hv, (ReadEffect.of_value hv).sameCpu.ccr]
  rfl

theorem accumulate_eq {f : Byte → Byte → Flags → Byte × Flags} (h : o.readable s) (hv : o.value s = (m, u)) :
    accumulate f o s = .next { u with a := (f s.a m s.ccr).1, ccr := (f s.a m s.ccr).2 } := by
  have e := (ReadEffect.of_value hv).sameCpu
  rw [accumulate, State.withOperand_eq h hv, e.ccr, e.a]
  rfl

theorem examine_eq {reg : State → Byte} {f : Byte → Byte → Flags → Byte × Flags} (h : o.readable s)
    (hv : o.value s = (m, u)) (hreg : reg u = reg s) :
    examine reg f o s = .next { u with ccr := (f (reg s) m s.ccr).2 } := by
  rw [examine, State.withOperand_eq h hv, (ReadEffect.of_value hv).sameCpu.ccr, hreg]
  rfl

theorem examineA_eq {f : Byte → Byte → Flags → Byte × Flags} (h : o.readable s) (hv : o.value s = (m, u)) :
    examine State.a f o s = .next { u with ccr := (f s.a m s.ccr).2 } :=
  examine_eq h hv (ReadEffect.of_value hv).sameCpu.a

theorem examineX_eq {f : Byte → Byte → Flags → Byte × Flags} (h : o.readable s) (hv : o.value s = (m, u)) :
    examine State.x f o s = .next { u with ccr := (f s.x m s.ccr).2 } :=
  examine_eq h hv (ReadEffect.of_value hv).sameCpu.x

end

section
variable {o : Operand16} {s u : State} {m : Word}

theorem loadHX_eq (h : o.readable s) (hv : o.value s = (m, u)) :
    loadHX o s = .next { u with h := hiByte m, x := loByte m, ccr := s.ccr.moved16 m } := by
  rw [loadHX, State.withOperand16_eq h hv, (ReadEffect.of_value16 hv).sameCpu.ccr]
  rfl

theorem compareHX_eq (h : o.readable s) (hv : o.value s = (m, u)) :
    compareHX o s = .next { u with ccr := s.ccr.compared16 s.hx m } := by
  have e := (ReadEffect.of_value16 hv).sameCpu
  rw [compareHX, State.withOperand16_eq h hv, e.ccr, e.hx]
  rfl

end

/-! ### Shapes over one byte of memory -/

section
variable {s u : State} {mode : AddrMode} {v : Byte}

theorem modifyMem_eq {f : Byte → Flags → Byte × Flags} {r : Byte} {g : Flags} (h : s.canWrite (mode.ea s) = true)
    (hv : s.busRead (mode.ea s) = (v, u)) (hf : f v s.ccr = (r, g)) :
    modifyMem f mode s = .next { u.busWrite (mode.ea s) r with ccr := g } := by
  rw [modifyMem_ok h, hv, hf]
  rfl

theorem testMem_eq (h : s.canRead (mode.ea s) = true) (hv : s.busRead (mode.ea s) = (v, u)) :
    testMem mode s = .next { u with ccr := s.ccr.moved8 v } := by
  rw [testMem, State.withRead_eq h hv, (ReadEffect.of_busRead hv).sameCpu.ccr]
  rfl

theorem clearMem_eq (h : s.canWrite (mode.ea s) = true) :
    clearMem mode s = .next { s.busWrite (mode.ea s) 0x00#8 with ccr := s.ccr.cleared } := by
  rw [clearMem, State.withWrite_ok h, State.busWrite_ccr]
  rfl

end

theorem modifyA_eq {f : Byte → Flags → Byte × Flags} {s : State} {r : Byte} {g : Flags} (hf : f s.a s.ccr = (r, g)) :
    modifyA f s = .next { s with a := r, ccr := g } := by
  rw [modifyA, hf]
  rfl

theorem modifyX_eq {f : Byte → Flags → Byte × Flags} {s : State} {r : Byte} {g : Flags} (hf : f s.x s.ccr = (r, g)) :
    modifyX f s = .next { s with x := r, ccr := g } := by
  rw [modifyX, hf]
  rfl

/-- The store after a read is the store of a state with the same memory. -/
theorem StoreEffect.after_read {s u : State} {a b : Word} {m : Byte} (v : Byte) (hv : s.busRead a = (m, u))
    (hw : Memory.wf s.mem = true) : StoreEffect u b v (u.busWrite b v) :=
  State.busWrite_storeEffect b v ((ReadEffect.of_busRead hv).sameCpu.wf hw)

/-- A pull whose byte and state are known. -/
theorem State.withPull_eq {s u : State} {m : Byte} (k : Byte → State → Out) (h : s.canRead (s.sp + 1) = true)
    (hv : ({ s with sp := s.sp + 1 } : State).busRead (s.sp + 1) = (m, u)) : s.withPull k = k m u :=
  State.withRead_eq (s := s.setSp (s.sp + 1)) h hv

/-- What can be written before a read can be written after it. -/
theorem State.canWrite_of_busRead {s u : State} {a b : Word} {m : Byte} (hv : s.busRead a = (m, u))
    (h : s.canWrite b = true) : u.canWrite b = true := by
  have hu := s.busRead_canWrite a b
  rw [hv] at hu
  exact hu.trans h

/-- Below the ROM whether an address can be written depends on the parameters alone. -/
theorem State.canWrite_low {s t : State} {b : Word} (hcfg : t.cfg = s.cfg) (hb : b.toNat < 0x2800) :
    t.canWrite b = s.canWrite b := by
  have hlow : ¬s.nonVolatileAt b := fun h => absurd (region_nonVolatile_high h) (by omega)
  unfold State.canWrite
  rw [hcfg]
  cases hr : region s.cfg b.toNat with
  | flash => exact absurd (.inl hr) hlow
  | rom => exact absurd (.inr hr) hlow
  | device | ram | reserved | unimplemented => rfl

/-- The second half of a MOV. -/
theorem moveTo_eq {s : State} {a : Word} {v : Byte} (h : s.canWrite a = true) :
    moveTo a v s = .next { s.busWrite a v with ccr := s.ccr.moved8 v } := by
  rw [moveTo, State.withWrite_ok h, State.busWrite_ccr]
  rfl

/-- The second half of a MOV with post-increment: H:X is read after the write, which leaves it alone. -/
theorem moveToInc_eq {s : State} {a : Word} {v : Byte} (h : s.canWrite a = true) :
    moveToInc a v s = .next
      { s.busWrite a v with h := hiByte (s.hx + 1), x := loByte (s.hx + 1), ccr := s.ccr.moved8 v } := by
  have hhx : (s.busWrite a v).hx = s.hx := by rw [State.hx, State.busWrite_h, State.busWrite_x, State.hx]
  rw [moveToInc, State.withWrite_ok h, State.busWrite_ccr, hhx]
  rfl

/-! ### The forms of each mnemonic are one shape -/

theorem exec_ldxForm (o : Operand) (s : State) : exec (ldxForm o) s = loadX o s := by
  cases o with
  | imm ii => rfl
  | mem m => cases m <;> rfl

theorem exec_adcForm (o : Operand) (s : State) : exec (adcForm o) s = accumulate adcOp o s := by
  cases o with
  | imm ii => rfl
  | mem m => cases m <;> rfl

theorem exec_addForm (o : Operand) (s : State) : exec (addForm o) s = accumulate addOp o s := by
  cases o with
  | imm ii => rfl
  | mem m => cases m <;> rfl

theorem exec_sbcForm (o : Operand) (s : State) : exec (sbcForm o) s = accumulate sbcOp o s := by
  cases o with
  | imm ii => rfl
  | mem m => cases m <;> rfl

theorem exec_subForm (o : Operand) (s : State) : exec (subForm o) s = accumulate subOp o s := by
  cases o with
  | imm ii => rfl
  | mem m => cases m <;> rfl

theorem exec_andForm (o : Operand) (s : State) : exec (andForm o) s = accumulate andOp o s := by
  cases o with
  | imm ii => rfl
  | mem m => cases m <;> rfl

theorem exec_eorForm (o : Operand) (s : State) : exec (eorForm o) s = accumulate eorOp o s := by
  cases o with
  | imm ii => rfl
  | mem m => cases m <;> rfl

theorem exec_oraForm (o : Operand) (s : State) : exec (oraForm o) s = accumulate oraOp o s := by
  cases o with
  | imm ii => rfl
  | mem m => cases m <;> rfl

theorem exec_cmpForm (o : Operand) (s : State) : exec (cmpForm o) s = examine State.a subOp o s := by
  cases o with
  | imm ii => rfl
  | mem m => cases m <;> rfl

theorem exec_cpxForm (o : Operand) (s : State) : exec (cpxForm o) s = examine State.x subOp o s := by
  cases o with
  | imm ii => rfl
  | mem m => cases m <;> rfl

theorem exec_bitForm (o : Operand) (s : State) : exec (bitForm o) s = examine State.a andOp o s := by
  cases o with
  | imm ii => rfl
  | mem m => cases m <;> rfl

theorem exec_ldhxForm (o : Operand16) (s : State) : exec (ldhxForm o) s = loadHX o s := by cases o <;> rfl

theorem exec_cphxForm (o : Operand16) (s : State) : exec (cphxForm o) s = compareHX o s := by cases o <;> rfl

theorem exec_stxForm (m : AddrMode) (s : State) : exec (stxForm m) s = storeReg m s.x s := by cases m <;> rfl

theorem exec_tstForm (f : MemForm) (s : State) : exec (tstForm f) s = testMem f.mode s := by cases f <;> rfl

theorem exec_clrForm (f : MemForm) (s : State) : exec (clrForm f) s = clearMem f.mode s := by cases f <;> rfl

theorem exec_incForm (f : MemForm) (s : State) : exec (incForm f) s = modifyMem incOp f.mode s := by cases f <;> rfl

theorem exec_decForm (f : MemForm) (s : State) : exec (decForm f) s = modifyMem decOp f.mode s := by cases f <;> rfl

theorem exec_negForm (f : MemForm) (s : State) : exec (negForm f) s = modifyMem negOp f.mode s := by cases f <;> rfl

theorem exec_comForm (f : MemForm) (s : State) : exec (comForm f) s = modifyMem comOp f.mode s := by cases f <;> rfl

theorem exec_lslForm (f : MemForm) (s : State) : exec (lslForm f) s = modifyMem lslOp f.mode s := by cases f <;> rfl

theorem exec_lsrForm (f : MemForm) (s : State) : exec (lsrForm f) s = modifyMem lsrOp f.mode s := by cases f <;> rfl

theorem exec_asrForm (f : MemForm) (s : State) : exec (asrForm f) s = modifyMem asrOp f.mode s := by cases f <;> rfl

theorem exec_rolForm (f : MemForm) (s : State) : exec (rolForm f) s = modifyMem rolOp f.mode s := by cases f <;> rfl

theorem exec_rorForm (f : MemForm) (s : State) : exec (rorForm f) s = modifyMem rorOp f.mode s := by cases f <;> rfl

/-! ### Data movement -/

/-- Settles O33: the address of each mode by its definition, the loads by their shape. -/
theorem loadRegister : Obligations.LoadRegister := by
  refine ⟨fun s mode => ?address, fun o s m u h hv => ⟨.of_value hv, ?lda, ?ldx⟩⟩
  case address =>
    cases mode with
    | dir dd => exact (zero_append_eq_zext16 dd).symm
    | ext | ix | ix2 | sp2 => rfl
    | ix1 ff =>
      show s.hx + zext16 ff = s.hx + (0x00#8 ++ ff)
      rw [zero_append_eq_zext16]
    | sp1 ff =>
      show s.sp + zext16 ff = s.sp + (0x00#8 ++ ff)
      rw [zero_append_eq_zext16]
  case lda => exact (exec_ldaForm o s).trans (loadA_eq h hv)
  case ldx => exact (exec_ldxForm o s).trans (loadX_eq h hv)

/-- Settles O34: each form is the store of its register. -/
theorem storeRegister : Obligations.StoreRegister := fun m s h =>
  ⟨⟨(exec_staForm m s).trans (storeReg_ok h), State.busWrite_storeEffect _ _⟩,
    (exec_stxForm m s).trans (storeReg_ok h), State.busWrite_storeEffect _ _⟩

/-- The flags of a word put together from two bytes. -/
theorem Flags.moved16_joinBytes (f : Flags) (h x : Byte) : f.moved16 (joinBytes h x) =
    { f with v := false, n := h.getLsbD 7, z := decide (h = 0x00#8 ∧ x = 0x00#8) } := by
  have hn : (joinBytes h x).getLsbD 15 = h.getLsbD 7 := BitVec.getLsbD_append
  have hz : decide (joinBytes h x = 0x0000#16) = decide (h = 0x00#8 ∧ x = 0x00#8) := by
    rw [decide_eq_decide]
    constructor
    · intro e
      exact ⟨(hiByte_joinBytes h x).symm.trans (congrArg hiByte e),
        (loByte_joinBytes h x).symm.trans (congrArg loByte e)⟩
    · rintro ⟨rfl, rfl⟩
      rfl
  rw [Flags.moved16_eq, hn, hz]

/-- STHX stores H, then X. -/
theorem storeHX_eq {dd : Byte} {s : State} (h : s.canWrite (zext16 dd) = true)
    (h' : (s.busWrite (zext16 dd) s.h).canWrite (zext16 dd + 1) = true) :
    storeHX dd s = .next
      { (s.busWrite (zext16 dd) s.h).busWrite (zext16 dd + 1) s.x with ccr := s.ccr.moved16 s.hx } := by
  have hhi : hiByte s.hx = s.h := hiByte_joinBytes _ _
  have hlo : loByte s.hx = s.x := loByte_joinBytes _ _
  rw [storeHX, State.withWrite16, hhi, hlo, State.withWrite_ok h, State.withWrite_ok h', State.busWrite_ccr,
    State.busWrite_ccr]
  rfl

/-- Settles O35: LDHX by its shape; STHX by its two stores, whose flags are those of H:X. -/
theorem loadStoreIndex : Obligations.LoadStoreIndex := by
  refine ⟨fun o s m u h hv => ⟨.of_value16 hv, (exec_ldhxForm o s).trans (loadHX_eq h hv)⟩, fun dd s h h' =>
    ⟨?sthx, fun hw => ⟨State.busWrite_storeEffect _ _ hw, State.busWrite_storeEffect _ _ (State.busWrite_wf _ _ hw)⟩⟩⟩
  case sthx =>
    rw [← Flags.moved16_joinBytes]
    have hlow : (zext16 dd + 1).toNat < 0x2800 := by rw [zext16]; bv_omega
    exact storeHX_eq h ((State.canWrite_low (State.busWrite_cfg _ _ _) hlow).trans h')

/-- A MOV whose source has been read, without an increment. -/
theorem moveTo_after_read {s u : State} {a b : Word} {m : Byte} (hv : s.busRead a = (m, u)) (h : s.canWrite b = true) :
    moveTo b m u = .next { u.busWrite b m with ccr := s.ccr.moved8 m } := by
  rw [moveTo_eq (State.canWrite_of_busRead hv h), (ReadEffect.of_busRead hv).sameCpu.ccr]

/-- A MOV whose source has been read, with the increment of H:X. -/
theorem moveToInc_after_read {s u : State} {a b : Word} {m : Byte} (hv : s.busRead a = (m, u))
    (h : s.canWrite b = true) : moveToInc b m u = .next
      { u.busWrite b m with h := hiByte (s.hx + 1), x := loByte (s.hx + 1), ccr := s.ccr.moved8 m } := by
  have e := (ReadEffect.of_busRead hv).sameCpu
  rw [moveToInc_eq (State.canWrite_of_busRead hv h), e.ccr, e.hx]

/-- Settles O37: each form is a read, but for the immediate one, and then a store. -/
theorem moveByte : Obligations.MoveByte := by
  refine ⟨fun ii dd s h => moveTo_eq h, fun ss dd m s u h h' hv => ⟨.of_busRead hv, ?dd⟩,
    fun dd m s u h h' hv => ⟨.of_busRead hv, ?ixd⟩, fun ss m s u h h' hv => ⟨.of_busRead hv, ?dix⟩,
    fun a m u hw => State.busWrite_storeEffect a m hw⟩
  case dd => exact (State.withRead_eq (k := moveTo (zext16 dd)) h hv).trans (moveTo_after_read hv h')
  case ixd => exact (State.withRead_eq (k := moveToInc (zext16 dd)) h hv).trans (moveToInc_after_read hv h')
  case dix =>
    calc exec (.movDixPlus ss) s = moveToInc u.hx m u := State.withRead_eq (k := fun v t => moveToInc t.hx v t) h hv
      _ = moveToInc s.hx m u := by rw [(ReadEffect.of_busRead hv).sameCpu.hx]
      _ = _ := moveToInc_after_read hv h'

/-- Settles O38: a push is a store, a pull a read. -/
theorem pushPullRegister : Obligations.PushPullRegister :=
  ⟨fun _ h => ⟨State.withPush_ok h, State.withPush_ok h, State.withPush_ok h,
    fun hw _ => State.busWrite_storeEffect _ _ hw⟩,
   fun _ _ _ h hv => ⟨.of_busRead hv, State.withPull_eq (fun v t => .next (t.setA v)) h hv,
    State.withPull_eq (fun v t => .next (t.setH v)) h hv, State.withPull_eq (fun v t => .next (t.setX v)) h hv⟩⟩

/-- Settles O39: CLR is a store, TST a read. -/
theorem clearAndTestForms : Obligations.ClearAndTestForms := by
  intro s
  refine ⟨fun f h => ⟨(exec_clrForm f s).trans (clearMem_eq h), State.busWrite_storeEffect _ _⟩, rfl, rfl, rfl,
    fun f m u h hv => ⟨.of_busRead hv, (exec_tstForm f s).trans (testMem_eq h hv)⟩, rfl, rfl⟩

/-! ### Arithmetic -/

/-- The flags of R26, R27, R29 to R31 after the sum `r` of `a` and `m`. -/
def Flags.sum (f : Flags) (a m r : Byte) : Flags :=
  { v := (a.getLsbD 7 && m.getLsbD 7 && !r.getLsbD 7) || (!a.getLsbD 7 && !m.getLsbD 7 && r.getLsbD 7)
    h := (a.getLsbD 3 && m.getLsbD 3) || (m.getLsbD 3 && !r.getLsbD 3) || (!r.getLsbD 3 && a.getLsbD 3)
    i := f.i
    n := r.getLsbD 7
    z := decide (r = 0x00#8)
    c := (a.getLsbD 7 && m.getLsbD 7) || (m.getLsbD 7 && !r.getLsbD 7) || (!r.getLsbD 7 && a.getLsbD 7) }

theorem Flags.added_eq_sum (f : Flags) (a m : Byte) (c : Bool) :
    f.added (add8 a m c) = f.sum a m (add8 a m c).r := by
  rw [Flags.sum, ← add8_h, ← add8_c]
  rfl

theorem addOp_eq (a m : Byte) (f : Flags) : addOp a m f = (a + m, f.sum a m (a + m)) := by
  have hr : (add8 a m false).r = a + m := (add8_r a m false).trans (BitVec.add_zero _)
  rw [addOp, Flags.added_eq_sum, hr]

theorem adcOp_eq (a m : Byte) (f : Flags) :
    adcOp a m f = (a + m + carryByte f.c, f.sum a m (a + m + carryByte f.c)) := by
  rw [adcOp, Flags.added_eq_sum, add8_r]

/-- Settles O40: by `addOp_eq` and `adcOp_eq`, whose carries are the bit formulas of R26, R27 and R31. -/
theorem addForms : Obligations.AddForms := by
  intro o s m u h hv
  refine ⟨.of_value hv, ?_, ?_⟩
  · rw [exec_addForm, accumulate_eq h hv, addOp_eq]
    rfl
  · rw [exec_adcForm, accumulate_eq h hv, adcOp_eq]
    rfl

/-- The flags of R26, R29 to R31 after the difference `r` of `a` and `m`; Hf is kept. -/
def Flags.difference (f : Flags) (a m r : Byte) : Flags :=
  { v := (a.getLsbD 7 && !m.getLsbD 7 && !r.getLsbD 7) || (!a.getLsbD 7 && m.getLsbD 7 && r.getLsbD 7)
    h := f.h
    i := f.i
    n := r.getLsbD 7
    z := decide (r = 0x00#8)
    c := (!a.getLsbD 7 && m.getLsbD 7) || (m.getLsbD 7 && r.getLsbD 7) || (r.getLsbD 7 && !a.getLsbD 7) }

theorem Flags.subtracted_eq_difference (f : Flags) (a m : Byte) (b : Bool) :
    f.subtracted (sub8 a m b) = f.difference a m (sub8 a m b).r := by
  rw [Flags.difference, ← sub8_c]
  rfl

theorem subOp_eq (a m : Byte) (f : Flags) : subOp a m f = (a - m, f.difference a m (a - m)) := by
  have hr : (sub8 a m false).r = a - m := (sub8_r a m false).trans (BitVec.sub_zero _)
  rw [subOp, Flags.subtracted_eq_difference, hr]

theorem sbcOp_eq (a m : Byte) (f : Flags) :
    sbcOp a m f = (a - m - carryByte f.c, f.difference a m (a - m - carryByte f.c)) := by
  rw [sbcOp, Flags.subtracted_eq_difference, sub8_r]

/-- Settles O41: by `subOp_eq` and `sbcOp_eq`; CMP and CPX examine what SUB computes. -/
theorem subtractForms : Obligations.SubtractForms := by
  intro o s m u h hv
  refine ⟨.of_value hv, ?sub, ?sbc, ?cmp, ?cpx⟩
  case sub =>
    rw [exec_subForm, accumulate_eq h hv, subOp_eq]
    rfl
  case sbc =>
    rw [exec_sbcForm, accumulate_eq h hv, sbcOp_eq]
    rfl
  case cmp =>
    rw [exec_cmpForm, examineA_eq h hv, subOp_eq]
    rfl
  case cpx =>
    rw [exec_cpxForm, examineX_eq h hv, subOp_eq]
    rfl

/-- Settles O42: the flags of the difference by definition; it is zero exactly if the operands are equal. -/
theorem compareIndex : Obligations.CompareIndex := by
  intro o s m u h hv hx r
  have hz : decide (s.hx = m) = (s.hx - m == 0x0000#16) := by
    rw [Bool.eq_iff_iff, beq_iff_eq, decide_eq_true_eq]
    bv_omega
  refine ⟨.of_value16 hv, ?_⟩
  rw [exec_cphxForm, compareHX_eq h hv, show decide (hx = m) = _ from hz]
  rfl

/-- Settles O43: the operation on the byte by `incOp_eq` and `decOp_eq`, in memory, A and X alike. -/
theorem incrementDecrement : Obligations.IncrementDecrement := by
  intro s inc dec
  have hinc (m : Byte) : incOp m s.ccr = (m + 1#8, inc m) := incOp_eq m s.ccr
  have hdec (m : Byte) : decOp m s.ccr = (m - 1#8, dec m) := decOp_eq m s.ccr
  refine ⟨fun f m u h hv => ⟨.of_busRead hv, ?_, ?_, fun hw => ⟨.after_read _ hv hw, .after_read _ hv hw⟩⟩,
    modifyA_eq (hinc s.a), modifyX_eq (hinc s.x), modifyA_eq (hdec s.a), modifyX_eq (hdec s.x)⟩
  · exact (exec_incForm f s).trans (modifyMem_eq h hv (hinc m))
  · exact (exec_decForm f s).trans (modifyMem_eq h hv (hdec m))

/-- The product of two bytes fits in a word. -/
theorem toNat_mul_bytes (x a : Byte) : (x.setWidth 16 * a.setWidth 16).toNat = x.toNat * a.toNat := by
  have h : x.toNat * a.toNat < 2 ^ 8 * 2 ^ 8 := Nat.mul_lt_mul'' x.isLt a.isLt
  simp
  omega

theorem hiByte_eq_ofNat (w : Word) : hiByte w = BitVec.ofNat 8 (w.toNat / 256) := by
  apply BitVec.eq_of_toNat_eq
  simp [hiByte, Nat.shiftRight_eq_div_pow]

theorem loByte_eq_ofNat (w : Word) : loByte w = BitVec.ofNat 8 (w.toNat % 256) := by
  apply BitVec.eq_of_toNat_eq
  simp [loByte]

theorem swapNibbles_eq_ofNat (a : Byte) :
    (a.extractLsb' 0 4 ++ a.extractLsb' 4 4 : Byte) = BitVec.ofNat 8 (a.toNat % 16 * 16 + a.toNat / 16) := by
  apply BitVec.eq_of_toNat_eq
  rw [BitVec.toNat_append, ← Nat.shiftLeft_add_eq_or_of_lt (BitVec.isLt _), Nat.shiftLeft_eq]
  have h : a.toNat / 16 < 16 := by omega
  simp [Nat.shiftRight_eq_div_pow, Nat.mod_eq_of_lt h]
  omega

/-- A word and a signed byte, added as integers. -/
theorem add_sext16_eq_ofInt (w : Word) (v : Byte) : w + sext16 v = BitVec.ofInt 16 ((w.toNat : Int) + v.toInt) := by
  rw [BitVec.ofInt_add, BitVec.ofInt_natCast, BitVec.ofNat_toNat, BitVec.setWidth_eq]
  rfl

/-- Settles O44: each by its definition, with the byte arithmetic read as arithmetic of numbers. -/
theorem multiplySwapAddImmediate : Obligations.MultiplySwapAddImmediate := by
  intro s ii
  refine ⟨?mul, ?nsa, ?ais, ?aix⟩
  case mul =>
    rw [← toNat_mul_bytes, ← hiByte_eq_ofNat, ← loByte_eq_ofNat]
    rfl
  case nsa =>
    rw [← swapNibbles_eq_ofNat]
    rfl
  case ais =>
    rw [← add_sext16_eq_ofInt]
    rfl
  case aix =>
    rw [← add_sext16_eq_ofInt]
    rfl

/-- Settles O48: each form is its operation on the operand, stored in A or examined. -/
theorem logicForms : Obligations.LogicForms := by
  intro o s m u h hv
  refine ⟨.of_value hv, ?_, ?_, ?_, ?_⟩
  · exact (exec_andForm o s).trans (accumulate_eq h hv)
  · exact (exec_eorForm o s).trans (accumulate_eq h hv)
  · exact (exec_oraForm o s).trans (accumulate_eq h hv)
  · exact (exec_bitForm o s).trans (examineA_eq h hv)

/-- Settles O49: the operation on the byte by definition, in memory, A and X alike. -/
theorem negateComplement : Obligations.NegateComplement := by
  intro s neg negF com comF
  have hneg (m : Byte) : negOp m s.ccr = (neg m, negF m) := by
    simp only [neg, negF, ← zero_sub_eq_ofNat, ne_eq, decide_not]
    rfl
  have hcom (m : Byte) : comOp m s.ccr = (com m, comF m) := by
    simp only [com, comF, ← not_eq_ofNat]
    rfl
  refine ⟨fun f m u h hv => ⟨.of_busRead hv, ?_, ?_, fun hw => ⟨.after_read _ hv hw, .after_read _ hv hw⟩⟩,
    modifyA_eq (hneg s.a), modifyX_eq (hneg s.x), modifyA_eq (hcom s.a), modifyX_eq (hcom s.x)⟩
  · exact (exec_negForm f s).trans (modifyMem_eq h hv (hneg m))
  · exact (exec_comForm f s).trans (modifyMem_eq h hv (hcom m))

end Sys2Proof.Machine

/-! SUPPORT. Shifts and rotates, register transfers, division and decimal arithmetic (spec/40_data_movement.md
section 7, spec/41_arithmetic.md sections 1, 2, 4 and 5, spec/42_logic.md sections 4 and 7). -/

namespace Sys2Proof.Machine

/-! ### Shifts and rotates -/

/-- What `Obligations.ShiftForms` says of one mnemonic, whose operation on a byte and the flags is known. -/
theorem shift_forms {s : State} {f : Byte → Flags → Byte × Flags} {op : Byte → Byte} {flags : Byte → Flags}
    {mem : MemForm → Instr} {onA onX : Instr} (hf : ∀ m, f m s.ccr = (op m, flags m))
    (hmem : ∀ form, exec (mem form) s = modifyMem f form.mode s) (hA : exec onA s = modifyA f s)
    (hX : exec onX s = modifyX f s) :
    (∀ (form : MemForm) (m : Byte) (u : State), s.canWrite (form.mode.ea s) = true →
      s.busRead (form.mode.ea s) = (m, u) →
      ReadEffect s u ∧
      exec (mem form) s = .next { u.busWrite (form.mode.ea s) (op m) with ccr := flags m } ∧
      (Memory.wf s.mem = true → StoreEffect u (form.mode.ea s) (op m) (u.busWrite (form.mode.ea s) (op m)))) ∧
    exec onA s = .next { s with a := op s.a, ccr := flags s.a } ∧
    exec onX s = .next { s with x := op s.x, ccr := flags s.x } :=
  ⟨fun form m _ h hv => ⟨.of_busRead hv, (hmem form).trans (modifyMem_eq h hv (hf m)), .after_read _ hv⟩,
    hA.trans (modifyA_eq (hf s.a)), hX.trans (modifyX_eq (hf s.x))⟩

/-- Settles O50: each operation as arithmetic on the byte, with the flags of its direction. -/
theorem shiftForms : Obligations.ShiftForms := by
  intro s op out mem onA onX h flags
  simp only [List.mem_cons, Prod.mk.injEq, List.not_mem_nil, or_false] at h
  rcases h with ⟨rfl, rfl, rfl, rfl, rfl⟩ | ⟨rfl, rfl, rfl, rfl, rfl⟩ | ⟨rfl, rfl, rfl, rfl, rfl⟩ |
    ⟨rfl, rfl, rfl, rfl, rfl⟩ | ⟨rfl, rfl, rfl, rfl, rfl⟩
  case inl =>
    refine shift_forms (f := lslOp) (fun m => ?_) (fun f => exec_lslForm f s) rfl rfl
    rw [lslOp, Flags.shiftedLeft_eq, shiftLeft_eq_ofNat]
  case inr.inl =>
    refine shift_forms (f := lsrOp) (fun m => ?_) (fun f => exec_lsrForm f s) rfl rfl
    rw [lsrOp, Flags.shiftedRight_eq, ushiftRight_eq_ofNat]
  case inr.inr.inl =>
    refine shift_forms (f := asrOp) (fun m => ?_) (fun f => exec_asrForm f s) rfl rfl
    rw [asrOp, Flags.shiftedRight_eq, arithShiftRight_eq_ofInt]
  case inr.inr.inr.inl =>
    refine shift_forms (f := rolOp) (fun m => ?_) (fun f => exec_rolForm f s) rfl rfl
    rw [rolOp, Flags.shiftedLeft_eq, rotateLeft_eq_ofNat]
  case inr.inr.inr.inr =>
    refine shift_forms (f := rorOp) (fun m => ?_) (fun f => exec_rorForm f s) rfl rfl
    rw [rorOp, Flags.shiftedRight_eq, rotateRight_eq_ofNat]

/-! ### Register transfers -/

/-- TXS takes the adjustment of TSX back (R143, R144). -/
theorem exec_tsx_txs (s : State) : ∃ t, exec .tsx s = .next t ∧ exec .txs t = .next { t with sp := s.sp } := by
  refine ⟨_, rfl, ?_⟩
  show Host.Outcome.next (State.setSp _ _) = _
  rw [State.setHX_hx, State.setHX_cfg, BitVec.add_sub_cancel]
  rfl

/-- Settles O36: each transfer by its definition, for either value of STACK_XFER_ADJ. -/
theorem registerTransfers : Obligations.RegisterTransfers := by
  refine fun s => ⟨rfl, rfl, rfl, rfl, fun h => ?noAdjust, fun h => ?adjust, exec_tsx_txs s⟩
  all_goals
    have htsx : exec .tsx s = .next (s.setHX (s.sp + (if s.cfg.stackXferAdj then 1 else 0))) := rfl
    have htxs : exec .txs s = .next (s.setSp (s.hx - (if s.cfg.stackXferAdj then 1 else 0))) := rfl
    rw [h] at htsx htxs
  case noAdjust =>
    exact ⟨htsx.trans (congrArg (fun w => Host.Outcome.next (s.setHX w)) (BitVec.add_zero s.sp)),
      htxs.trans (congrArg (fun w => Host.Outcome.next (s.setSp w)) (BitVec.sub_zero s.hx))⟩
  case adjust => exact ⟨htsx, htxs⟩

/-! ### Division -/

theorem joinBytes_toNat (h l : Byte) : (joinBytes h l).toNat = 256 * h.toNat + l.toNat := by
  rw [joinBytes, BitVec.toNat_append, ← Nat.shiftLeft_add_eq_or_of_lt l.isLt, Nat.shiftLeft_eq, Nat.mul_comm]

/-- The quotient of H:A by X is a byte exactly if H < X (R178). -/
theorem quotient_fits_iff (h a x : Byte) :
    (x.toNat ≠ 0 ∧ (joinBytes h a).toNat / x.toNat ≤ 255) ↔ h.toNat < x.toNat := by
  rw [joinBytes_toNat]
  have ha := a.isLt
  constructor
  · rintro ⟨hx, hq⟩
    have hlt : (256 * h.toNat + a.toNat) / x.toNat < 256 := Nat.lt_succ_of_le hq
    rw [Nat.div_lt_iff_lt_mul (by omega)] at hlt
    omega
  · intro hlt
    refine ⟨by omega, Nat.le_of_lt_succ ((Nat.div_lt_iff_lt_mul (by omega)).2 ?_)⟩
    omega

/-- Settles O45: the quotient fits in a byte exactly if H < X, by `quotient_fits_iff`. -/
theorem divide : Obligations.Divide := by
  intro s
  have hdiv : exec .div s = .next s.divided := rfl
  have hfits := quotient_fits_iff s.h s.a s.x
  constructor
  · intro hlt
    obtain ⟨hx, hq⟩ := hfits.2 hlt
    have hr : (joinBytes s.h s.a).toNat % s.x.toNat < s.x.toNat := Nat.mod_lt _ (by omega)
    have hx' := s.x.isLt
    rw [hdiv, State.divided, if_pos ⟨hx, hq⟩]
    refine ⟨_, rfl, ?_, ?_, rfl⟩
    · show (BitVec.ofNat 8 _).toNat * _ + (BitVec.ofNat 8 _).toNat = (joinBytes s.h s.a).toNat
      rw [BitVec.toNat_ofNat, BitVec.toNat_ofNat, Nat.mod_eq_of_lt (by omega), Nat.mod_eq_of_lt (by omega),
        Nat.div_add_mod']
    · show (BitVec.ofNat 8 _).toNat < _
      rw [BitVec.toNat_ofNat, Nat.mod_eq_of_lt (by omega)]
      exact hr
  · intro hle
    rw [hdiv, State.divided, if_neg fun h => by have := hfits.1 h; omega]
    rfl

/-! ### Decimal adjustment -/

/-- The nine rows of R174's table: carry, high digit, half carry and low digit before the DAA. -/
def daaInTable (c : Bool) (hi : Nat) (h : Bool) (lo : Nat) : Bool :=
  let row : Bool → Nat → Nat → Bool → Nat → Nat → Bool := fun c' h0 h1 hf l0 l1 =>
    decide (c = c') && decide (h0 ≤ hi) && decide (hi ≤ h1) && decide (h = hf) && decide (l0 ≤ lo) && decide (lo ≤ l1)
  row false 0 9 false 0 9 || row false 0 8 false 10 15 || row false 0 9 true 0 3 || row false 10 15 false 0 9 ||
    row false 9 15 false 10 15 || row false 10 15 true 0 3 || row true 0 2 false 0 9 || row true 0 2 false 10 15 ||
    row true 0 3 true 0 3

/-- The decimal carry of R174's formula. -/
def daaCarry (c : Bool) (hi lo : Nat) : Bool := c || decide (9 < hi) || (decide (hi = 9) && decide (9 < lo))

/-- The correction of R174's formula. -/
def daaCorrection (c : Bool) (hi : Nat) (h : Bool) (lo : Nat) : Byte :=
  (if h || decide (9 < lo) then 0x06#8 else 0x00#8) ||| (if daaCarry c hi lo then 0x60#8 else 0x00#8)

/-- The table holds R174's formula on its nine rows. -/
theorem daaTable_eq (c : Bool) {hi : Nat} (h : Bool) {lo : Nat} (hhi : hi < 16) (hlo : lo < 16) :
    daaTable c hi h lo =
      if daaInTable c hi h lo then some (daaCorrection c hi h lo, daaCarry c hi lo) else none := by
  have all : ∀ (c h : Bool) (hi lo : Fin 16), daaTable c hi h lo =
      if daaInTable c hi h lo then some (daaCorrection c hi h lo, daaCarry c hi lo) else none := by
    decide +kernel
  exact all c h ⟨hi, hhi⟩ ⟨lo, hlo⟩

/-- A DAA on a row of the table. -/
theorem decimalAdjusted_inTable {s : State}
    (h : daaInTable s.ccr.c (s.a.toNat / 16) s.ccr.h (s.a.toNat % 16) = true) :
    s.decimalAdjusted =
      let r := s.a + daaCorrection s.ccr.c (s.a.toNat / 16) s.ccr.h (s.a.toNat % 16)
      { s with
        a := r
        ccr := { s.ccr with v := freeBit s.free, n := r.getLsbD 7, z := decide (r = 0x00#8),
                            c := daaCarry s.ccr.c (s.a.toNat / 16) (s.a.toNat % 16) }
        free := s.free + 1 } := by
  rw [State.decimalAdjusted, daaTable_eq _ _ (by omega) (Nat.mod_lt _ (by decide)), if_pos h]
  rfl

/-- A DAA outside the table. -/
theorem decimalAdjusted_outside {s : State}
    (h : daaInTable s.ccr.c (s.a.toNat / 16) s.ccr.h (s.a.toNat % 16) = false) :
    s.decimalAdjusted =
      { s with
        a := Config.freeByte (s.free + 1)
        ccr := { s.ccr with v := freeBit s.free, c := freeBit (s.free + 2), n := freeBit (s.free + 3),
                            z := freeBit (s.free + 4) }
        free := s.free + 5 } := by
  rw [State.decimalAdjusted, daaTable_eq _ _ (by omega) (Nat.mod_lt _ (by decide)), h]
  rfl

/-- The binary sum of two BCD bytes and a carry. -/
def bcdSum (x y cin : Nat) : Nat := 16 * (x / 10) + x % 10 + (16 * (y / 10) + y % 10) + cin

/-- The sum of two BCD bytes is on a row of the table: three rows for each size of the sum of the low digits. -/
theorem daaInTable_of_bcdSum {x y cin a : Nat} {c h : Bool} (hx : x < 100) (hy : y < 100) (hcin : cin ≤ 1)
    (ha : bcdSum x y cin % 256 = a) (hc : c = true ↔ 255 < bcdSum x y cin)
    (hh : h = true ↔ 15 < x % 10 + y % 10 + cin) :
    daaInTable c (a / 16) h (a % 16) = true := by
  unfold bcdSum at ha hc
  cases c <;> cases h <;> simp at hc hh <;> simp [daaInTable] <;> omega

/-- Settles O46: the table is R174's formula on its nine rows, and a BCD sum lies on one of them. -/
theorem decimalAdjust : Obligations.DecimalAdjust := fun _ =>
  ⟨fun h => congrArg Host.Outcome.next (decimalAdjusted_inTable h),
    fun h => congrArg Host.Outcome.next (decimalAdjusted_outside h),
    fun _ _ _ hx hy hcin ha hc hh => daaInTable_of_bcdSum hx hy hcin ha hc hh⟩

/-- R174's formula corrects the binary sum of two BCD bytes to the BCD sum, and carries at 100. -/
theorem bcd_corrected {x y cin a : Nat} {c h : Bool} (hx : x < 100) (hy : y < 100) (hcin : cin ≤ 1)
    (ha : bcdSum x y cin % 256 = a) (hc : c = true ↔ 255 < bcdSum x y cin)
    (hh : h = true ↔ 15 < x % 10 + y % 10 + cin) :
    BitVec.ofNat 8 a + daaCorrection c (a / 16) h (a % 16) =
      BitVec.ofNat 8 (16 * ((x + y + cin) % 100 / 10) + (x + y + cin) % 10) ∧
    daaCarry c (a / 16) (a % 16) = decide (100 ≤ x + y + cin) := by
  have hcarry : daaCarry c (a / 16) (a % 16) = decide (100 ≤ x + y + cin) := by
    have hsum : x + y + cin = 10 * (x / 10 + y / 10) + (x % 10 + y % 10 + cin) := by omega
    have hbcd : bcdSum x y cin = 16 * (x / 10 + y / 10) + (x % 10 + y % 10 + cin) := by unfold bcdSum; omega
    have htens : x / 10 + y / 10 ≤ 18 := by omega
    have hunits : x % 10 + y % 10 + cin ≤ 19 := by omega
    rw [hsum, Bool.eq_iff_iff, daaCarry]
    rw [hbcd] at ha hc
    generalize x / 10 + y / 10 = tens at *
    generalize x % 10 + y % 10 + cin = units at *
    simp [hc]
    omega
  have hlow : (h || decide (9 < a % 16)) = decide (10 ≤ x % 10 + y % 10 + cin) := by
    unfold bcdSum at ha
    rw [Bool.eq_iff_iff]
    simp [hh]
    omega
  refine ⟨?_, hcarry⟩
  rw [daaCorrection, hcarry, hlow]
  apply BitVec.eq_of_toNat_eq
  unfold bcdSum at ha
  by_cases hl : 10 ≤ x % 10 + y % 10 + cin <;> by_cases hs : 100 ≤ x + y + cin <;> simp [hl, hs] <;> omega

/-- A number below 100 as a BCD byte. -/
def bcdByte (x : Nat) : Byte := BitVec.ofNat 8 (16 * (x / 10) + x % 10)

theorem bcdByte_toNat {x : Nat} (hx : x < 100) : (bcdByte x).toNat = 16 * (x / 10) + x % 10 := by
  rw [bcdByte, BitVec.toNat_ofNat]
  omega

theorem bcdByte_eq_zero_iff {x : Nat} (hx : x < 100) : bcdByte x = 0x00#8 ↔ x = 0 := by
  rw [← BitVec.toNat_inj, bcdByte_toNat hx, BitVec.toNat_ofNat]
  omega

/-- The sum of two BCD bytes with a carry in, its carry and its half carry. -/
theorem add8_bcdByte {x y : Nat} (c : Bool) (hx : x < 100) (hy : y < 100) :
    bcdSum x y c.toNat % 256 = (add8 (bcdByte x) (bcdByte y) c).r.toNat ∧
    ((add8 (bcdByte x) (bcdByte y) c).c = true ↔ 255 < bcdSum x y c.toNat) ∧
    ((add8 (bcdByte x) (bcdByte y) c).h = true ↔ 15 < x % 10 + y % 10 + c.toNat) := by
  have hxu : (16 * (x / 10) + x % 10) % 16 = x % 10 := by omega
  have hyu : (16 * (y / 10) + y % 10) % 16 = y % 10 := by omega
  simp only [add8, bcdByte_toNat hx, bcdByte_toNat hy, bcdSum, decide_eq_true_eq, BitVec.toNat_ofNat, hxu, hyu,
    Nat.reducePow, and_self]

/-- Settles O47: the sum lies in the table by `daaInTable_of_bcdSum`, which corrects it by `bcd_corrected`. -/
theorem decimalAddition : Obligations.DecimalAddition := by
  intro s x y hx hy ha sum
  have hcin : s.ccr.c.toNat ≤ 1 := Bool.toNat_le _
  have hsum : sum = x + y + s.ccr.c.toNat := by
    show x + y + (if s.ccr.c then 1 else 0) = _
    cases s.ccr.c <;> rfl
  have ha : s.a = bcdByte x := ha
  let d := add8 s.a (bcdByte y) s.ccr.c
  obtain ⟨hr, hc, hh⟩ : bcdSum x y s.ccr.c.toNat % 256 = d.r.toNat ∧ (d.c = true ↔ 255 < bcdSum x y s.ccr.c.toNat) ∧
      (d.h = true ↔ 15 < x % 10 + y % 10 + s.ccr.c.toNat) := by
    show _ = (add8 s.a _ _).r.toNat ∧ ((add8 s.a _ _).c = true ↔ _) ∧ ((add8 s.a _ _).h = true ↔ _)
    rw [ha]
    exact add8_bcdByte s.ccr.c hx hy
  obtain ⟨hvalue, hcarry⟩ := bcd_corrected hx hy hcin hr hc hh
  rw [BitVec.ofNat_toNat, BitVec.setWidth_eq, ← hsum] at hvalue
  rw [← hsum] at hcarry
  have hdigits : (16 * (sum % 100 / 10) + sum % 10) = 16 * (sum % 100 / 10) + sum % 100 % 10 := by omega
  rw [hdigits] at hvalue ⊢
  let t : State := { s with a := d.r, ccr := s.ccr.added d }
  refine ⟨t, _, rfl, congrArg Host.Outcome.next (decimalAdjusted_inTable (s := t)
    (daaInTable_of_bcdSum hx hy hcin hr hc hh)), hvalue, hcarry, ?_⟩
  show decide (d.r + daaCorrection d.c (d.r.toNat / 16) d.h (d.r.toNat % 16) = 0x00#8) = _
  rw [hvalue, decide_eq_decide]
  exact bcdByte_eq_zero_iff (Nat.mod_lt _ (by decide))

end Sys2Proof.Machine

/-! SUPPORT. Jumps, branches, bit instructions, calls, processor control and $9E as a term of its own
(spec/43_jumps_branches.md, spec/44_subroutines.md, spec/45_bit.md, spec/46_control.md). -/

namespace Sys2Proof.Machine

/-! ### Simple branches -/

theorem branchIf_eq (cond : Bool) (rr : Byte) (s : State) :
    branchIf cond rr s = .next { s with pc := if cond then s.pc + rr.signExtend 16 else s.pc } := rfl

theorem not_xor_eq_beq (x y : Bool) : (!xor x y) = (x == y) := by cases x <;> cases y <;> rfl

theorem xor_eq_bne (x y : Bool) : xor x y = (x != y) := by cases x <;> cases y <;> rfl

/-- A branch of a list is a simple branch under its condition if every branch of the list is. -/
theorem exec_branch_of_mem {l : List ((Byte → Instr) × Bool)} {i : Byte → Instr} {cond : Bool} {s : State} {rr : Byte}
    (h : (i, cond) ∈ l) (all : ∀ p ∈ l, exec (p.1 rr) s = branchIf p.2 rr s) :
    exec (i rr) s = branchIf cond rr s := all _ h

/-- Settles O51: each branch takes its condition to the one branch operation. -/
theorem simpleBranches : Obligations.SimpleBranches := by
  intro s rr i cond h
  have hbranch : exec (i rr) s = branchIf cond rr s := by
    refine exec_branch_of_mem h ?_
    simp only [List.forall_mem_cons]
    refine ⟨rfl, rfl, rfl, rfl, rfl, rfl, rfl, rfl, rfl, rfl, rfl, rfl, rfl, rfl, ?bge, ?blt, ?bgt, ?ble, rfl, rfl,
      fun _ h => nomatch h⟩
    case bge => exact congrArg (branchIf · rr s) (not_xor_eq_beq _ _)
    case blt => exact congrArg (branchIf · rr s) (xor_eq_bne _ _)
    case bgt => exact congrArg (branchIf · rr s) ((Bool.not_or _ _).trans (congrArg _ (not_xor_eq_beq _ _)))
    case ble => exact congrArg (fun b => branchIf (s.ccr.z || b) rr s) (xor_eq_bne _ _)
  rw [hbranch, branchIf_eq, ← add_sext16_eq_ofInt]
  rfl

/-- The orders of two bytes, from less and equal. -/
theorem signed_order (a m : Byte) :
    (!decide (a.toInt < m.toInt)) = decide (m.toInt ≤ a.toInt) ∧
    (decide (a = m) || decide (a.toInt < m.toInt)) = decide (a.toInt ≤ m.toInt) ∧
    (!(decide (a = m) || decide (a.toInt < m.toInt))) = decide (m.toInt < a.toInt) := by
  simp only [← BitVec.toInt_inj, ← Bool.decide_or, ← decide_not, decide_eq_decide]
  omega

theorem unsigned_order (a m : Byte) :
    (!decide (a.toNat < m.toNat)) = decide (m.toNat ≤ a.toNat) ∧
    (decide (a.toNat < m.toNat) || decide (a = m)) = decide (a.toNat ≤ m.toNat) ∧
    (!(decide (a.toNat < m.toNat) || decide (a = m))) = decide (m.toNat < a.toNat) := by
  simp only [← BitVec.toNat_inj, ← Bool.decide_or, ← decide_not, decide_eq_decide]
  omega

/-- Settles O52: after CMP the flags compare as `sub8_compares` says, and each branch reads the order from them. -/
theorem compareThenBranch : Obligations.CompareThenBranch := by
  intro o s m u rr h hv
  obtain ⟨hc, hnv, hz⟩ := sub8_compares s.a m
  refine ⟨_, (exec_cmpForm o s).trans (examineA_eq h hv), (ReadEffect.of_value hv).sameCpu.a, ?_⟩
  generalize ht : ({ u with ccr := _ } : State) = t
  have tc : t.ccr.c = decide (s.a.toNat < m.toNat) := by rw [← ht]; exact hc
  have tz : t.ccr.z = decide (s.a = m) := by rw [← ht]; exact hz
  have tnv : xor t.ccr.n t.ccr.v = decide (s.a.toInt < m.toInt) := by rw [← ht]; exact hnv
  obtain ⟨sge, sle, sgt⟩ := signed_order s.a m
  obtain ⟨uge, ule, ugt⟩ := unsigned_order s.a m
  intro i holds hi
  refine exec_branch_of_mem hi ?_
  simp only [List.forall_mem_cons, ← sge, ← sle, ← sgt, ← uge, ← ule, ← ugt, ne_eq, decide_not, ← tc, ← tz, ← tnv]
  exact ⟨rfl, rfl, rfl, rfl, rfl, rfl, rfl, rfl, rfl, rfl, fun _ h => nomatch h⟩

/-! ### Bit instructions -/

/-- Settles O53: by the one bit branch, with the tested bit 0 or 1. -/
theorem bitBranches : Obligations.BitBranches := by
  intro s u n dd rr m h hv
  have e := (ReadEffect.of_busRead hv).sameCpu
  have hbit (want : Bool) : branchOnBit want n dd rr s = .next
      { u with ccr := { s.ccr with c := m.getLsbD n.toNat },
               pc := if m.getLsbD n.toNat == want then s.pc + rr.signExtend 16 else s.pc } := by
    rw [branchOnBit, State.withRead_eq h hv, ← e.ccr, ← e.pc]
    rfl
  refine ⟨.of_busRead hv, (hbit true).trans ?_, (hbit false).trans ?_⟩ <;> cases m.getLsbD n.toNat <;> rfl

theorem bitMask_getLsbD (n : BitVec 3) {k : Nat} (hk : k < 8) : (bitMask n).getLsbD k = decide (k = n.toNat) := by
  have hbit : ∀ (n : BitVec 3) (k : Fin 8), (bitMask n).getLsbD k.val = decide (k.val = n.toNat) := by decide
  exact hbit n ⟨k, hk⟩

/-- Settles O54: the byte written is read bit by bit from the mask. -/
theorem bitModify : Obligations.BitModify := by
  intro s u n dd m h hv
  refine ⟨.of_busRead hv, m ||| bitMask n, m &&& ~~~bitMask n, fun k hk => ?_, fun k hk => ?_, ?_, ?_,
    fun hw => ⟨.after_read _ hv hw, .after_read _ hv hw⟩⟩
  · rw [BitVec.getLsbD_or, bitMask_getLsbD n hk]
  · rw [BitVec.getLsbD_and, BitVec.getLsbD_not, bitMask_getLsbD n hk, decide_eq_true hk, Bool.true_and]
  · show modifyBit (· ||| bitMask n) dd s = _
    rw [modifyBit_ok h, hv]
  · show modifyBit (· &&& ~~~bitMask n) dd s = _
    rw [modifyBit_ok h, hv]

/-! ### Compare and branch, decrement and branch -/

theorem compareBranch_eq {s u : State} {mode : AddrMode} {rr m : Byte} (h : s.canRead (mode.ea s) = true)
    (hv : s.busRead (mode.ea s) = (m, u)) :
    compareBranch mode rr s = .next
      { u with pc := if decide (s.a = m) then s.pc + rr.signExtend 16 else s.pc } := by
  have e := (ReadEffect.of_busRead hv).sameCpu
  have ha : (u.a == m) = decide (s.a = m) := by rw [e.a]; rfl
  rw [compareBranch, State.withRead_eq h hv, ha, ← e.pc]
  rfl

theorem compareBranchInc_eq {s u : State} {mode : AddrMode} {rr m : Byte} (h : s.canRead (mode.ea s) = true)
    (hv : s.busRead (mode.ea s) = (m, u)) :
    compareBranchInc mode rr s = .next
      { u with pc := if decide (s.a = m) then s.pc + rr.signExtend 16 else s.pc
               h := hiByte (s.hx + 1), x := loByte (s.hx + 1) } := by
  have e := (ReadEffect.of_busRead hv).sameCpu
  have ha : (u.a == m) = decide (s.a = m) := by rw [e.a]; rfl
  rw [compareBranchInc, State.withRead_eq h hv, ha, e.hx, ← e.pc]
  rfl

/-- Settles O55: by `compareBranch_eq` and `compareBranchInc_eq` at the address of each form. -/
theorem compareAndBranch : Obligations.CompareAndBranch := fun _ _ =>
  ⟨fun dd _ _ h hv => ⟨.of_busRead hv, compareBranch_eq (mode := .dir dd) h hv⟩,
    fun ff _ _ h hv => ⟨.of_busRead hv, compareBranch_eq (mode := .sp1 ff) h hv⟩,
    fun _ _ h hv => ⟨.of_busRead hv, compareBranchInc_eq (mode := .ix) h hv⟩,
    fun ff _ _ h hv => ⟨.of_busRead hv, compareBranchInc_eq (mode := .ix1 ff) h hv⟩,
    fun _ => ⟨rfl, rfl⟩⟩

/-- The branch of DBNZ. -/
theorem State.branch_ne_zero (s : State) (r rr : Byte) :
    s.branch (r != 0x00#8) rr = { s with pc := if r = 0x00#8 then s.pc else s.pc + rr.signExtend 16 } := by
  by_cases h : r = 0x00#8
  · rw [h]
    rfl
  · rw [bne_iff_ne.2 h, if_neg h]
    rfl

/-- Settles O56: by `State.branch_ne_zero` on the byte that is one less. -/
theorem decrementAndBranch : Obligations.DecrementAndBranch := by
  intro s rr target
  refine ⟨fun f m u h hv => ⟨.of_busRead hv, ?mem, .after_read _ hv⟩, ?dbnza, ?dbnzx⟩
  case mem =>
    have hpc : (u.busWrite (f.mode.ea s) (m - 1)).pc = s.pc := by
      rw [State.busWrite_pc, (ReadEffect.of_busRead hv).sameCpu.pc]
    have hdec : decrementBranch f.mode rr s = .next
        { u.busWrite (f.mode.ea s) (m - 1#8) with pc := target (m - 1#8) } := by
      rw [decrementBranch_ok h, hv, State.branch_ne_zero, hpc]
      rfl
    cases f <;> exact hdec
  case dbnza => exact congrArg Host.Outcome.next (State.branch_ne_zero (s.setA (s.a - 1#8)) _ rr)
  case dbnzx => exact congrArg Host.Outcome.next (State.branch_ne_zero (s.setX (s.x - 1#8)) _ rr)

/-! ### Jumps, calls and returns -/

/-- Settles O57: each by its definition. -/
theorem jumpForms : Obligations.JumpForms := by
  refine fun s => ⟨fun dd => ?_, fun _ => rfl, fun _ => rfl, fun ff => ?_, rfl⟩
  · rw [zero_append_eq_zext16]
    rfl
  · rw [zero_append_eq_zext16]
    rfl

/-- A push of the return address to RAM. -/
theorem State.withPushPc_ram {s : State} (k : State → Out) (hw : Memory.wf s.mem = true) (h : s.ramAt s.sp)
    (h' : s.ramAt (s.sp - 1)) :
    ∃ w, s.withPushPc k = k w ∧
      w = { s with mem := w.mem, justStored := w.justStored, written := w.written, sp := s.sp - 2 } ∧
      w.byteAt s.sp = loByte s.pc ∧ w.byteAt (s.sp - 1) = hiByte s.pc ∧
      ∀ b, b ≠ s.sp → b ≠ s.sp - 1 → w.byteAt b = s.byteAt b := by
  obtain ⟨v, ev, qv, wv, bv, ov⟩ := State.withPush_ram (loByte s.pc) (fun t => t.withPush (hiByte t.pc) k) hw h
  have hsp : v.sp = s.sp - 1 := by rw [qv]
  have hpc : v.pc = s.pc := by rw [qv]
  have hram : v.ramAt v.sp := by rw [hsp, qv]; exact h'
  obtain ⟨w, ew, qw, -, bw, ow⟩ := State.withPush_ram (hiByte v.pc) k wv hram
  rw [hsp] at bw ow
  rw [hpc] at bw
  refine ⟨w, ev.trans ew, ?_, ?_, bw, fun b hb hb' => (ow b hb').trans (ov b hb)⟩
  · rw [hsp, BitVec.sub_sub] at qw
    rw [qw, qv]
    rfl
  · rw [ow _ (by bv_omega), bv]

/-- RTS over two plain bytes. -/
theorem exec_rts_plain {s : State} (h : s.plainAt (s.sp + 1)) (h' : s.plainAt (s.sp + 2)) :
    exec .rts s = .next
      { s with pc := joinBytes (s.byteAt (s.sp + 1)) (s.byteAt (s.sp + 2)), sp := s.sp + 2 } := by
  have hsp : s.sp + 1 + 1 = s.sp + 2 := BitVec.add_assoc _ _ _
  have h'' : (s.setSp (s.sp + 1)).plainAt ((s.setSp (s.sp + 1)).sp + 1) := by
    rw [State.setSp_sp, hsp]
    exact h'
  show s.withPullPc .next = _
  rw [State.withPullPc, State.withPull_plain h, State.withPull_plain h'', State.setSp_sp, hsp]
  rfl

/-- A call pushes the return address and goes to its target. -/
theorem exec_call (s : State) {i : Instr} {target : Word}
    (h : (∃ f : JumpForm, i = jsrForm f ∧ target = f.mode.ea s) ∨
      (∃ rr : Byte, i = .bsr rr ∧ target = s.pc + rr.signExtend 16)) :
    ∃ k : State → Word, exec i s = s.withPushPc (fun t => .next (t.setPc (k t))) ∧ ∀ t, t.pc = s.pc → k t = target := by
  rcases h with ⟨f, rfl, rfl⟩ | ⟨rr, rfl, rfl⟩
  · refine ⟨fun _ => f.mode.ea s, ?_, fun _ _ => rfl⟩
    cases f <;> rfl
  · exact ⟨fun t => t.pc + rr.signExtend 16, rfl, fun t ht => congrArg (· + rr.signExtend 16) ht⟩

/-- Settles O58: a call is two pushes to RAM, and RTS pulls what they stored. -/
theorem callAndReturn : Obligations.CallAndReturn := by
  refine ⟨fun s i target hi hw h h' => ?call, fun s => exec_rts_plain⟩
  case call =>
    obtain ⟨k, hexec, hk⟩ := exec_call s hi
    obtain ⟨w, hpush, hw, hlo, hhi, hkept⟩ := State.withPushPc_ram (fun t => .next (t.setPc (k t))) hw h h'
    have hpc : k w = target := hk w (by rw [hw])
    rw [hpc] at hpush
    have hsp : w.sp = s.sp - 2 := by rw [hw]
    have hcfg : w.cfg = s.cfg := by rw [hw]
    have hsp1 : w.sp + 1 = s.sp - 1 := by bv_omega
    have hsp2 : w.sp + 2 = s.sp := by bv_omega
    refine ⟨w.setPc target, _, hexec.trans hpush, rfl, hsp, hlo, hhi, hkept, ?frame, exec_rts_plain ?_ ?_, ?back⟩
    case frame => rw [hw]; rfl
    case back =>
      show ({ w with pc := joinBytes (w.byteAt (w.sp + 1)) (w.byteAt (w.sp + 2)), sp := w.sp + 2 } : State) = _
      rw [hsp1, hsp2, hlo, hhi, joinBytes_hi_lo]
      rfl
    · show w.plainAt (w.sp + 1)
      rw [hsp1, State.plainAt, hcfg]
      exact .inl h'
    · show w.plainAt (w.sp + 2)
      rw [hsp2, State.plainAt, hcfg]
      exact .inl h

/-! ### Processor control -/

/-- Settles O59: each by its definition. -/
theorem conditionCodeControl : Obligations.ConditionCodeControl := fun _ => ⟨rfl, rfl, rfl, rfl, rfl, rfl⟩

end Sys2Proof.Machine

/-! SUPPORT. The opcode $9E as a term of its own runs the instruction of page 2 that the decoder reads there
(spec/30_encoding.md R98, R103). -/

namespace Sys2Proof.Machine

/-- A format makes the instructions that an entry of the table of meanings runs. -/
inductive RunsAs : Format → Page2Run → Prop
  | op1 {g : Byte → Instr} {f : Byte → State → Out} (h : ∀ v, exec (g v) = f v) : RunsAs (.op1 g) (.sp1 f)
  | op16 {g : Word → Instr} {f : Word → State → Out} (h : ∀ w, exec (g w) = f w) : RunsAs (.op16 g) (.sp2 f)
  | op2 {g : Byte → Byte → Instr} {f : Byte → Byte → State → Out} (h : ∀ v w, exec (g v w) = f v w) :
      RunsAs (.op2 g) (.sp1Rel f)

/-- The decoder's table and the table of meanings list the same second bytes with matching entries. -/
inductive RowRunsAs : List (Byte × Format) → List (Byte × Page2Run) → Prop
  | nil : RowRunsAs [] []
  | cons {b : Byte} {f : Format} {r : Page2Run} {l : List (Byte × Format)} {l' : List (Byte × Page2Run)}
      (hr : RunsAs f r) (h : RowRunsAs l l') : RowRunsAs ((b, f) :: l) ((b, r) :: l')

theorem RowRunsAs.append {l m : List (Byte × Format)} {l' m' : List (Byte × Page2Run)} (h : RowRunsAs l l')
    (h' : RowRunsAs m m') : RowRunsAs (l ++ m) (l' ++ m') := by
  induction h with
  | nil => exact h'
  | cons hr _ ih => exact .cons hr ih

/-! Each row of page 2 runs what the table of meanings lists (R103). -/

theorem page2Row6_runs : RowRunsAs page2Row6 page2Runs6 := by
  unfold page2Row6 page2Runs6
  repeat' constructor
  all_goals
    intros
    rfl

theorem page2RowD_runs : RowRunsAs page2RowD page2RunsD := by
  unfold page2RowD page2RunsD
  repeat' constructor
  all_goals
    intros
    rfl

theorem page2RowE_runs : RowRunsAs page2RowE page2RunsE := by
  unfold page2RowE page2RunsE
  repeat' constructor
  all_goals
    intros
    rfl

/-- Matching tables answer alike: both nothing, or matching entries. -/
theorem RowRunsAs.lookup {l : List (Byte × Format)} {l' : List (Byte × Page2Run)} (h : RowRunsAs l l') (b : Byte) :
    (l.lookup b = none ∧ l'.lookup b = none) ∨ ∃ f r, l.lookup b = some f ∧ l'.lookup b = some r ∧ RunsAs f r := by
  induction h with
  | nil => exact .inl ⟨rfl, rfl⟩
  | @cons k f r l l' hr _ ih =>
    rw [List.lookup, List.lookup]
    cases b == k with
    | true => exact .inr ⟨f, r, rfl, rfl, hr⟩
    | false => exact ih

/-- The decoder's page 2 and the table of meanings answer alike. -/
theorem page2_runs (b : Byte) :
    (page2 b = none ∧ (page2Runs6 ++ page2RunsD ++ page2RunsE).lookup b = none) ∨
    ∃ f r, page2 b = some f ∧ (page2Runs6 ++ page2RunsD ++ page2RunsE).lookup b = some r ∧ RunsAs f r :=
  ((page2Row6_runs.append page2RowD_runs).append page2RowE_runs).lookup b

/-- A fetch of a plain byte. -/
theorem State.withFetch8_plain {s : State} {k : Byte → State → Out} (h : s.plainAt s.pc) :
    s.withFetch8 k = k (s.byteAt s.pc) (s.setPc (s.pc + 1)) :=
  State.withRead_plain h

/-- The opcode $9E runs what the decoder makes of it and the plain bytes at PC, with PC past them. -/
theorem execPage2Prefix_decoded {s : State} (h0 : s.plainAt s.pc) (h1 : s.plainAt (s.pc + 1))
    (h2 : s.plainAt (s.pc + 2)) {i : Instr} {rest : List Byte}
    (h : decode [0x9E#8, s.byteAt s.pc, s.byteAt (s.pc + 1), s.byteAt (s.pc + 2)] = .ok (i, rest)) :
    execPage2Prefix s = exec i (s.setPc (s.pc + BitVec.ofNat 16 ((encode i).length - 1))) := by
  have hnext : s.pc + 1 + 1 = s.pc + 2 := by bv_omega
  have hend : s.pc + 2 + 1 = s.pc + 3 := by bv_omega
  have hfetch1 (k) : (s.setPc (s.pc + 1)).withFetch8 k = k (s.byteAt (s.pc + 1)) (s.setPc (s.pc + 2)) := by
    rw [← hnext]
    exact State.withFetch8_plain h1
  have hfetch2 (k) : (s.setPc (s.pc + 2)).withFetch8 k = k (s.byteAt (s.pc + 2)) (s.setPc (s.pc + 3)) := by
    rw [← hend]
    exact State.withFetch8_plain h2
  rw [execPage2Prefix, State.withFetch8_plain h0]
  rw [decode_page2] at h
  rcases page2_runs (s.byteAt s.pc) with ⟨hp, hl⟩ | ⟨f, r, hp, hl, hr⟩
  · rw [hp] at h
    simp only [hl]
    cases h
    rfl
  · rw [hp] at h
    simp only [hl]
    have hf := page2_encodes hp
    cases hr with
    | op1 hrun =>
      cases h
      simp only [hfetch1]
      rw [(hf _).1, hrun]
      rfl
    | op16 hrun =>
      cases h
      simp only [hfetch1, hfetch2]
      rw [(hf _).1, hrun]
      rfl
    | op2 hrun =>
      cases h
      simp only [hfetch1, hfetch2]
      rw [(hf _ _).1, hrun]
      rfl

/-- Settles O60: by the decoder's page 2 and the table of meanings, which list the same instructions. -/
theorem prefixRunsPage2 : Obligations.PrefixRunsPage2 := by
  intro s h0 h1 h2
  refine ⟨fun i rest h => execPage2Prefix_decoded h0 h1 h2 h, fun hb hea => ?_⟩
  have hdecode : decode [0x9E#8, s.byteAt s.pc, s.byteAt (s.pc + 1), s.byteAt (s.pc + 2)] =
      .ok (.ldaSp1 (s.byteAt (s.pc + 1)), [s.byteAt (s.pc + 2)]) := by
    rw [hb]
    rfl
  calc exec .page2Prefix s
      = exec (.ldaSp1 (s.byteAt (s.pc + 1))) (s.setPc (s.pc + 2)) := execPage2Prefix_decoded h0 h1 h2 hdecode
    _ = loadA (.mem (.sp1 (s.byteAt (s.pc + 1)))) (s.setPc (s.pc + 2)) := rfl
    _ = _ := loadA_plain hea

end Sys2Proof.Machine

/-! SUPPORT. The reset: what the sequence leaves, the mode entered, what requests a reset, and the watchdog
(spec/70_reset_and_hazards.md section 1, spec/60_exceptions.md sections 2, 6 and 7). -/

namespace Sys2Proof.Machine

/-! ### The entry to monitor mode -/

/-- Both bytes of the user reset vector are erased (R360). -/
theorem State.vectorErased_iff (s : State) :
    s.mem.vectorErased = true ↔ s.byteAt 0xFFFE#16 = 0xFF#8 ∧ s.byteAt 0xFFFF#16 = 0xFF#8 := by
  rw [Memory.vectorErased, Bool.and_eq_true, beq_iff_eq, beq_iff_eq]
  rfl

theorem State.monitorForced_iff (s : State) :
    s.monitorForced = true ↔ s.monitorLevels = false ∧ s.byteAt 0xFFFE#16 = 0xFF#8 ∧ s.byteAt 0xFFFF#16 = 0xFF#8 := by
  rw [State.monitorForced, Bool.and_eq_true, Bool.not_eq_true', s.vectorErased_iff]

/-- Without VTST on /IRQ the levels of the first row of R360 do not stand. -/
theorem State.monitorLevels_of_vdd {s : State} (h : s.pins.irqVtst = false) : s.monitorLevels = false := by
  rw [State.monitorLevels, h]
  rfl

theorem State.entryMode_eq_monitor_iff (s : State) :
    s.entryMode = .monitor ↔
      s.monitorLevels = true ∨ s.monitorForced = true ∨
        (s.pins.irqVtst && Config.monitorOutsideTable s.free) = true := by
  unfold State.entryMode
  split
  next h => simpa [or_assoc] using h
  next h => simpa [or_assoc] using h

/-- Settles O7: the mode after a reset is the entry mode. -/
theorem resetMode : Obligations.ResetMode := by
  intro s causes
  show (_ → (s.entryMode = .monitor ↔ _)) ∧ (_ → _ → s.entryMode = .monitor) ∧ (_ → _ → _ → _ → s.entryMode = .monitor)
  rw [s.entryMode_eq_monitor_iff, s.monitorForced_iff]
  refine ⟨fun hvdd => ?_, fun hlow hhigh => ?_, fun hvtst hrst hpta1 hpta4 => .inl ?_⟩
  · rw [State.monitorLevels_of_vdd hvdd, hvdd]
    simp
  · cases hl : s.monitorLevels with
    | true => exact .inl rfl
    | false => exact .inr (.inl ⟨rfl, hlow, hhigh⟩)
  · rw [State.monitorLevels, hvtst, hrst, hpta1, hpta4]
    rfl

theorem State.entrySource_cases (s : State) : s.entrySource = .internal ∨ s.entrySource = .externalClock := by
  unfold State.entrySource
  split
  · exact .inr rfl
  · exact .inl rfl

/-- The external clock is taken in the rows of R360 that name it. -/
theorem State.entrySource_eq_externalClock_iff (s : State) :
    s.entrySource = .externalClock ↔ s.monitorLevels = true ∨
      ((s.byteAt 0xFFFE#16 = 0xFF#8 ∧ s.byteAt 0xFFFF#16 = 0xFF#8) ∧ s.pins.irqVtst = false ∧
        s.pins.pta.getLsbD 2 = true) := by
  have hsource : s.entrySource = .externalClock ↔
      (s.monitorLevels || (s.monitorForced && !s.pins.irqVtst && s.irqPinHigh)) = true := by
    unfold State.entrySource
    split
    next h => exact ⟨fun _ => h, fun _ => rfl⟩
    next h => exact ⟨fun he => (by cases he), fun ht => absurd ht h⟩
  rw [hsource, ← s.vectorErased_iff, State.monitorForced, State.irqPinHigh]
  cases s.monitorLevels <;> cases s.pins.irqVtst <;> simp

/-! ### The cause record -/

/-- A reset that is no power-on adds its causes, and MODRST if the entry to monitor mode is forced (R312, R373). -/
theorem State.resetSequence_srsr {s : State} {causes : Byte} (h : causes.getLsbD 7 = false) :
    (s.resetSequence causes).sim.srsr = s.sim.srsr ||| causes ||| (if s.monitorForced then 0x04#8 else 0x00#8) := by
  show (if causes.getLsbD 7 then _ else _) = _
  rw [h]
  rfl

/-- A cause stands in SRSR after its reset. -/
theorem State.resetSequence_srsr_cause (s : State) {causes : Byte} {n : Nat} (h : causes.getLsbD 7 = false)
    (hn : causes.getLsbD n = true) : (s.resetSequence causes).sim.srsr.getLsbD n = true := by
  rw [State.resetSequence_srsr h, BitVec.getLsbD_or, BitVec.getLsbD_or, hn, Bool.or_true, Bool.true_or]

/-- The same in the terms of the table of R360. -/
theorem State.resetSequence_srsr_levels {s : State} {causes : Byte} (h : causes.getLsbD 7 = false) :
    (s.resetSequence causes).sim.srsr = s.sim.srsr ||| causes |||
      (if s.monitorLevels = false ∧ s.byteAt 0xFFFE#16 = 0xFF#8 ∧ s.byteAt 0xFFFF#16 = 0xFF#8 then 0x04#8
        else 0x00#8) := by
  rw [State.resetSequence_srsr h]
  simp only [s.monitorForced_iff]

/-! ### Memory through a reset -/

/-- The causes but power-on that are asynchronous (R312). -/
theorem asynchronous_eq_false_iff {causes : Byte} (h : causes.getLsbD 7 = false) :
    asynchronous causes = false ↔ causes &&& 0x62#8 = 0x00#8 := by
  revert causes
  decide +kernel

/-- Filled RAM holds the free values in order. -/
theorem Memory.read_freeRam_mem {m : Memory} (n : Nat) {k c : Nat} (hw : Memory.wf m = true) (hk : k < c)
    (hc : c ≤ 0x80) : (m.freeRam n c).read (0x80 + k) = Config.freeByte (n + k) := by
  induction c with
  | zero => omega
  | succ c ih =>
    rw [Memory.freeRam]
    by_cases he : k = c
    · rw [he]
      exact Memory.read_write_same _ _ (Memory.wf_freeRam n c hw (by omega))
    · rw [Memory.read_write_other _ _ (by omega)]
      exact ih (by omega) (by omega)

/-- A listed byte of RAM holds a free value after it has been freed. -/
theorem Memory.read_freeBytes_mem {m : Memory} {p : Params} {l : List Word} {a : Word} (n : Nat)
    (hw : Memory.wf m = true) (hr : region p a.toNat = .ram) (ha : a ∈ l) :
    ∃ k, k < l.length ∧ (m.freeBytes p n l).read a.toNat = Config.freeByte (n + k) := by
  induction l generalizing n with
  | nil => cases ha
  | cons b l ih =>
    rw [Memory.freeBytes]
    by_cases hab : a = b
    · subst hab
      rw [if_pos hr]
      exact ⟨0, Nat.succ_pos _, Memory.read_write_same _ _ (Memory.wf_freeBytes p (n + 1) l hw)⟩
    · obtain ⟨k, hk, hread⟩ := ih (n + 1) ((List.mem_cons.1 ha).resolve_left hab)
      refine ⟨k + 1, Nat.succ_lt_succ hk, ?_⟩
      rw [← Nat.add_assoc, Nat.add_right_comm, ← hread]
      split
      · exact Memory.read_write_other _ _ fun e => hab (BitVec.eq_of_toNat_eq e)
      · rfl

/-- After an asynchronous reset but a power-on the bytes that were being written are free values (R311). -/
theorem State.resetSequence_written {s : State} {causes : Byte} {a : Word} (hp : causes.getLsbD 7 = false)
    (hc : causes &&& 0x62#8 ≠ 0x00#8) (hw : Memory.wf s.mem = true) (hr : s.ramAt a) (ha : a ∈ s.written) :
    ∃ k, k < s.written.length ∧ (s.resetSequence causes).byteAt a = Config.freeByte (s.free + 7 + k) := by
  have hasync : asynchronous causes = true :=
    eq_true_of_ne_false fun h => hc ((asynchronous_eq_false_iff hp).1 h)
  show ∃ k, _ ∧ (s.memAfterReset causes).read a.toNat = _
  rw [State.memAfterReset, hp, hasync]
  exact Memory.read_freeBytes_mem (s.free + 7) (Memory.wf_dropDevices _ hw) hr ha

/-- After a power-on RAM holds free values. -/
theorem State.resetSequence_powerOn {s : State} {causes : Byte} {k : Nat} (hp : causes.getLsbD 7 = true)
    (hw : Memory.wf s.mem = true) (hk : k < 128) :
    (s.resetSequence causes).mem.read (0x80 + k) = Config.freeByte (s.free + 7 + k) := by
  have hmem : s.memAfterReset causes = (s.mem.dropDevices s.cfg).freeRam (s.free + 7) 128 := if_pos hp
  have hreset : (s.resetSequence causes).mem = s.memAfterReset causes := rfl
  rw [hreset, hmem, Memory.read_freeRam_mem (s.free + 7) (Memory.wf_dropDevices _ hw) hk (Nat.le_refl 128)]

/-- The vectors of both modes lie in FLASH or ROM. -/
theorem State.nonVolatileAt_vector (s : State) {a : Word}
    (h : 0xFFC2 ≤ a.toNat ∨ (0xFE10 ≤ a.toNat ∧ a.toNat < 0xFFB0)) : s.nonVolatileAt a := by
  rcases h with h | ⟨h, h'⟩
  · exact .inl (region_vectors _ h)
  · exact .inr (region_monitorRom _ h h')

/-- PC comes from the reset vector of the mode entered (R357). -/
theorem State.resetSequence_pc (s : State) (causes : Byte) :
    (s.resetSequence causes).pc =
      joinBytes (s.byteAt (s.resetSequence causes).mode.resetVector)
        (s.byteAt ((s.resetSequence causes).mode.resetVector + 1)) := by
  have hplace : ∀ m : Mode, s.nonVolatileAt m.resetVector ∧ s.nonVolatileAt (m.resetVector + 1) := by
    rintro (_ | _)
    · exact ⟨s.nonVolatileAt_vector (.inl (by decide)), s.nonVolatileAt_vector (.inl (by decide))⟩
    · exact ⟨s.nonVolatileAt_vector (.inr (by decide)), s.nonVolatileAt_vector (.inr (by decide))⟩
  obtain ⟨hhi, hlo⟩ := hplace (s.resetSequence causes).mode
  rw [← s.resetSequence_kept causes hhi, ← s.resetSequence_kept causes hlo]
  rfl

/-- Settles O5: each value by evaluation. -/
theorem resetState : Obligations.ResetState :=
  ⟨rfl, rfl, rfl, rfl, rfl, rfl, rfl, rfl, rfl, rfl, rfl, rfl, rfl, rfl, rfl, rfl⟩

/-- Settles O6: the registers by definition, SRSR, the clock source and memory by the rules above. -/
theorem resetSequence : Obligations.ResetSequence := by
  intro s causes t erased levels
  refine ⟨rfl, rfl, rfl, rfl, rfl, rfl, rfl, s.entrySource_cases, s.entrySource_eq_externalClock_iff, rfl, ?rst,
    ?powerOnSrsr, ?forcedSrsr, ?srsr, rfl, ?userPc, ?monitorPc, fun a => s.resetSequence_kept causes, ?ram, ?written,
    fun hp hw k hk => State.resetSequence_powerOn hp hw hk, rfl, rfl, rfl, rfl, rfl, rfl, rfl, rfl, rfl⟩
  case rst => exact Bool.or_false _
  case powerOnSrsr =>
    intro hp
    show (if causes.getLsbD 7 then _ else _) = _
    rw [hp]
    rfl
  case forcedSrsr =>
    intro hp hl he
    rw [show t.sim.srsr = _ from State.resetSequence_srsr hp, s.monitorForced_iff.2 ⟨hl, he⟩]
    rfl
  case srsr =>
    intro hp h
    have hforced : s.monitorForced = false := Bool.eq_false_iff.2 fun hf => by
      obtain ⟨hl, he⟩ := s.monitorForced_iff.1 hf
      exact h.elim (fun h => Bool.false_ne_true (hl.symm.trans h)) fun h => h he
    rw [show t.sim.srsr = _ from State.resetSequence_srsr hp, hforced]
    exact BitVec.or_zero
  case userPc =>
    intro hm
    rw [show t.pc = _ from s.resetSequence_pc causes, hm]
    rfl
  case monitorPc =>
    intro hm
    rw [show t.pc = _ from s.resetSequence_pc causes, hm]
    rfl
  case ram =>
    intro hp a hr h
    exact s.resetSequence_ram hp hr (h.imp_left (asynchronous_eq_false_iff hp).2)
  case written =>
    intro hp hc hw a hr ha
    exact State.resetSequence_written hp hc hw hr ha

/-! ### Requests of a reset -/

/-- A reset that is requested is in the record of requests. -/
theorem State.requestReset_getLsbD (s : State) {cause : ResetCause} {n : Nat} (h : cause.bit.getLsbD n = true) :
    (s.requestReset cause).sim.resetReq.getLsbD n = true := by
  show (s.sim.resetReq ||| cause.bit).getLsbD n = true
  rw [BitVec.getLsbD_or, h, Bool.or_true]

theorem State.deliver_resetPin {s : State} (h : s.sim.rstEn = true) :
    s.deliver .resetPin = s.requestReset .pin := if_pos h

/-- A low level at /RST is requested when it comes, and the request outlives it (R314). -/
theorem State.deliver_pins_twice {s : State} {pta : BitVec 6} (ptb : Byte) (vtst : Bool) (pta' : BitVec 6) (ptb' : Byte)
    (vtst' : Bool) (hen : s.sim.rstEn = true) (hlow : pta.getLsbD 3 = false) :
    ((s.deliver (.pins pta ptb vtst)).deliver (.pins pta' ptb' vtst')).sim.resetReq.getLsbD 6 = true := by
  have hforces : (s.pinsChange pta ptb vtst).rstForces = true := by
    rw [State.pinsChange_rstForces, hen, hlow]
    rfl
  have hfirst : (s.deliver (.pins pta ptb vtst)).sim.resetReq.getLsbD 6 = true := State.resetPending_rst hforces
  exact State.resetPending_requested hfirst

/-- A low VDD requests the LVI's reset while the LVI and its reset are on (R318, R369). -/
theorem State.deliver_supply_low {s : State} (hpower : s.sim.config1.getLsbD 4 = false)
    (hreset : s.sim.config1.getLsbD 5 = false) (hrun : s.run ≠ .stopped ∨ s.sim.config1.getLsbD 6 = true) :
    (s.deliver (.supply true)).sim.resetReq.getLsbD 1 = true := by
  have hforces : (s.requestForced.setPins { s.pins with vddLow := true }).lviForces = true := by
    show (true && (!s.sim.config1.getLsbD 4) && (!s.sim.config1.getLsbD 5) &&
      (decide (s.run ≠ .stopped) || s.sim.config1.getLsbD 6)) = true
    rw [hpower, hreset]
    rcases hrun with h | h <;> simp [h]
  exact State.resetPending_lvi hforces

/-- The change of VDD back keeps what has been requested. -/
theorem State.deliver_supply_requested {s : State} {n : Nat} (low : Bool) (h : s.sim.resetReq.getLsbD n = true) :
    (s.deliver (.supply low)).sim.resetReq.getLsbD n = true :=
  State.resetPending_requested (s := s.requestForced.setPins { s.pins with vddLow := low })
    (State.resetPending_requested h)

/-! ### The watchdog -/

@[simp] theorem State.timerRuns_sim (s : State) (n : Nat) : (s.timerRuns n).sim = s.sim := by
  unfold State.timerRuns
  exact ite_holds (fun t : State => t.sim = s.sim) rfl rfl

/-- The COP requests its reset exactly when it has counted its timeout (R368). -/
theorem State.simCounts_resetReq (s : State) (n : Nat) :
    (s.simCounts n).sim.resetReq =
      if s.copRuns = true ∧ s.sim.copTimeout ≤ s.sim.copTime + n then s.sim.resetReq ||| 0x20#8
      else s.sim.resetReq := by
  unfold State.simCounts
  cases s.copRuns with
  | false => rfl
  | true =>
    by_cases h : s.sim.copTimeout ≤ s.sim.copTime + n
    · simp only [h, if_true, and_self]
      rfl
    · simp only [h, if_true, if_false, and_false]
      rfl

/-- While a clock counts, its cycles request what the COP does. -/
theorem State.deliver_clocks_running {s : State} {n : Nat} (hrun : s.run ≠ .stopped) (hlvi : s.lviForces = false) :
    (s.deliver (.clocks n)).sim.resetReq = (s.simCounts n).sim.resetReq := by
  have hclock : ¬ (s.run = .stopped ∨ s.lviForces = true) := by simp [hrun, hlvi]
  show (s.clocksPass n).sim.resetReq = _
  rw [State.clocksPass, if_neg hclock, State.timerRuns_sim]

/-- Cycles that do not count request nothing (R296, R318). -/
theorem State.deliver_clocks_held {s : State} {n : Nat} (h : s.run = .stopped ∨ s.lviForces = true) :
    (s.deliver (.clocks n)).sim.resetReq = s.sim.resetReq := by
  show (s.clocksPass n).sim.resetReq = _
  rw [State.clocksPass, if_pos h]

/-- Cycles request nothing as long as the COP does not run or is short of its timeout. -/
theorem State.deliver_clocks_quiet {s : State} {n : Nat}
    (h : s.copRuns = true → s.sim.copTime + n < s.sim.copTimeout) :
    (s.deliver (.clocks n)).sim.resetReq = s.sim.resetReq := by
  by_cases hclock : s.run = .stopped ∨ s.lviForces = true
  · exact State.deliver_clocks_held hclock
  · obtain ⟨hrun, hlvi⟩ := not_or.1 hclock
    rw [State.deliver_clocks_running hrun (Bool.eq_false_iff.2 hlvi), State.simCounts_resetReq, if_neg]
    exact fun ⟨hcop, hle⟩ => Nat.not_lt.2 hle (h hcop)

/-- What stops the COP (R347, R368). -/
theorem State.copRuns_eq_false {s : State}
    (h : s.sim.config1.getLsbD 0 = true ∨ s.brk.phase = .serving ∨ (s.mode = .monitor ∧ s.pins.irqVtst = true)) :
    s.copRuns = false := by
  unfold State.copRuns Sim.copDisabled
  rcases h with h | h | ⟨hmode, hvtst⟩
  · rw [h]
    rfl
  · simp only [h, ne_eq, not_true_eq_false, decide_false, Bool.and_false, Bool.false_and]
  · simp only [hmode, hvtst, decide_true, Bool.and_true, Bool.not_true, Bool.and_false]

/-- Settles O23: by what `n` cycles add to the requests, and by the service, which leaves no time counted. -/
theorem watchdog : Obligations.Watchdog := by
  intro s n v timeout
  refine ⟨fun hrun hlvi hcop => ?counted, fun hn => ?serviced, fun h => ?held⟩
  case counted =>
    rw [State.deliver_clocks_running hrun hlvi, State.simCounts_resetReq, hcop]
    simp only [true_and]
    rfl
  case serviced =>
    rw [State.busWrite_copctl]
    refine State.deliver_clocks_quiet fun _ => ?_
    show 0 + n < timeout
    omega
  case held =>
    rw [← or_assoc] at h
    rcases h with h | h
    · exact State.deliver_clocks_held h
    · refine State.deliver_clocks_quiet fun hcop => ?_
      rw [State.copRuns_eq_false h] at hcop
      cases hcop

end Sys2Proof.Machine

/-! SUPPORT. The instruction boundary, one rule per outcome, and the fetch of an instruction from plain bytes
(spec/60_exceptions.md R326, R335, spec/30_encoding.md R105, spec/20_memory.md R59, R67). -/

namespace Sys2Proof

/-- What a format completes is at least as long as its opcode. -/
theorem Format.Encodes.length_le {f : Format} {pre bs rest : List Byte} {i : Instr} (hf : f.Encodes pre)
    (h : f.complete bs = .ok (i, rest)) : pre.length ≤ (encode i).length := by
  have hrest : rest.length ≤ bs.length := by
    cases f with
    | op0 j =>
      cases h
      exact Nat.le_refl _
    | op1 g =>
      rcases bs with _ | ⟨v, bs⟩ <;> cases h
      exact Nat.le_succ _
    | op16 g =>
      rcases bs with _ | ⟨v, _ | ⟨w, bs⟩⟩ <;> cases h
      exact Nat.le_add_right _ 2
    | op2 g =>
      rcases bs with _ | ⟨v, _ | ⟨w, bs⟩⟩ <;> cases h
      exact Nat.le_add_right _ 2
  have hlength := congrArg List.length (hf.complete h).1
  rw [List.length_append, List.length_append] at hlength
  omega

end Sys2Proof

namespace Sys2Proof.Machine

/-! ### What a boundary does -/

section
variable {q : State}

/-- A reset that is due is taken before all else (R335). -/
theorem State.boundary_reset (h : q.resetPending ≠ 0x00#8) : q.boundary = .next (q.resetSequence q.resetPending) :=
  if_pos h

/-- Else a break that is pending is taken (R335). -/
theorem State.boundary_break (hr : q.resetPending = 0x00#8) (hb : q.breakPending = true) :
    q.boundary = q.enterBreak := by
  rw [State.boundary, if_neg (not_not_intro hr), if_pos hb]

/-- Else an interrupt that is pending (R326). -/
theorem State.boundary_interrupt {src : IntSource} (hr : q.resetPending = 0x00#8) (hb : q.breakPending = false)
    (hi : q.interruptPending = some src) : q.boundary = q.enterInterrupt src := by
  rw [State.boundary, if_neg (not_not_intro hr), if_neg (Bool.eq_false_iff.1 hb), hi]

/-- A CPU that sleeps goes on sleeping (R35). -/
theorem State.boundary_asleep (hr : q.resetPending = 0x00#8) (hb : q.breakPending = false)
    (hi : q.interruptPending = none) (hrun : q.run ≠ .running) : q.boundary = .next q := by
  rw [State.boundary, if_neg (not_not_intro hr), if_neg (Bool.eq_false_iff.1 hb), hi]
  cases h : q.run with
  | running => exact absurd h hrun
  | waiting => rfl
  | stopped => rfl

/-- A command of the host is served in place of the next instruction (R358). -/
theorem State.boundary_host {c : HostCommand} (hr : q.resetPending = 0x00#8) (hb : q.breakPending = false)
    (hi : q.interruptPending = none) (hrun : q.run = .running) (hc : q.dueCommand = some c) :
    q.boundary = q.serveHost c := by
  rw [State.boundary, if_neg (not_not_intro hr), if_neg (Bool.eq_false_iff.1 hb), hi, hrun, hc]

/-- At a quiet boundary the next instruction executes (R326). -/
theorem State.boundary_quiet (h : q.quiet) : q.boundary = q.executeNext := by
  obtain ⟨hr, hb, hi, hrun, hc⟩ := h
  rw [State.boundary, if_neg (not_not_intro hr), if_neg (Bool.eq_false_iff.1 hb), hi, hrun, hc]

theorem State.executeNext_unimplemented (h : region q.cfg q.pc.toNat = .unimplemented) :
    q.executeNext = .next (q.resetSequence 0x08#8) := by
  rw [State.executeNext, h]
  rfl

theorem State.executeNext_reserved (h : region q.cfg q.pc.toNat = .reserved) :
    q.executeNext = .refused (.reservedFetch q.pc) := by
  rw [State.executeNext, h]

theorem State.executeNext_device (h : region q.cfg q.pc.toNat = .device) :
    q.executeNext = .refused (.deviceFetch q.pc) := by
  rw [State.executeNext, h]

theorem State.executeNext_plain (h : q.plainAt q.pc) : q.executeNext = q.runAtPc := by
  rw [State.executeNext]
  rcases h with h | h | h <;> rw [h]

end

/-! ### Resets at a boundary and by an instruction -/

/-- An illegal encoding resets with ILOP (R316). -/
theorem exec_illegal {i : Instr} {b1 : Byte}
    (h : i ∈ [Instr.illegal32, .illegal3E, .illegal82, .illegal8D, .illegal96, .illegalAC, .illegalPage2 b1])
    (s : State) : exec i s = .next (s.resetSequence 0x10#8) := by
  simp only [List.mem_cons, List.not_mem_nil, or_false] at h
  rcases h with rfl | rfl | rfl | rfl | rfl | rfl | rfl <;> rfl

/-- STOP while it is enabled (R296). -/
theorem exec_stop_enabled {s : State} (h : s.sim.stopEnabled = true) :
    exec .stop s = .next { s with ccr := { s.ccr with i := false }, run := .stopped } := by
  show Host.Outcome.next (if s.sim.stopEnabled then _ else _) = _
  rw [h]
  rfl

/-- STOP while it is not enabled resets with ILOP (R316). -/
theorem exec_stop_disabled {s : State} (h : s.sim.stopEnabled = false) :
    exec .stop s = .next (s.resetSequence 0x10#8) := by
  show Host.Outcome.next (if s.sim.stopEnabled then _ else _) = _
  rw [h]
  rfl

/-- After a reset by one cause that is no power-on the cause is recorded, I is set and the CPU runs. -/
theorem State.resetSequence_taken {s : State} {r : Out} {causes : Byte} (n : Nat)
    (h : r = .next (s.resetSequence causes)) (hp : causes.getLsbD 7 = false) (hn : causes.getLsbD n = true) :
    ∃ t, r = .next t ∧ t.sim.srsr.getLsbD n = true ∧ t.ccr.i = true ∧ t.run = .running :=
  ⟨_, h, s.resetSequence_srsr_cause hp hn, rfl, rfl⟩

/-- Settles O8: each source requests its reset, and a boundary and an instruction take theirs whatever I is. -/
theorem resetIsNotMasked : Obligations.ResetIsNotMasked := by
  intro s b1 n pta pta' ptb ptb' vtst vtst'
  refine ⟨?powerOn, fun hen => ?pin, fun hen hlow => ?level, fun hen hlow => ?pinsChanged,
    fun hpower hreset hrun => ?supply, fun hrun hlvi hcop hle => ?clocks, fun h => ?taken, fun i hi => ?illegal,
    fun h => ?stop, fun hq hpc => ?fetch⟩
  case powerOn => exact State.resetPending_requested (s.requestReset_getLsbD (cause := .por) rfl)
  case pin =>
    rw [State.deliver_resetPin hen]
    exact State.resetPending_requested (s.requestReset_getLsbD (cause := .pin) rfl)
  case level =>
    refine State.resetPending_rst ?_
    rw [State.rstForces, hen, hlow]
    rfl
  case pinsChanged =>
    exact State.resetPending_requested (State.deliver_pins_twice ptb vtst pta' ptb' vtst' hen hlow)
  case supply =>
    have hlow := State.deliver_supply_low hpower hreset hrun
    exact ⟨State.resetPending_requested hlow, State.resetPending_requested (State.deliver_supply_requested false hlow)⟩
  case clocks =>
    refine State.resetPending_requested ?_
    rw [State.deliver_clocks_running hrun hlvi, State.simCounts_resetReq, if_pos ⟨hcop, hle⟩, BitVec.getLsbD_or]
    exact Bool.or_true _
  case taken => exact ⟨_, State.boundary_reset h, rfl, rfl, rfl⟩
  case illegal => exact State.resetSequence_taken 4 (exec_illegal hi s) rfl rfl
  case stop => exact State.resetSequence_taken 4 (exec_stop_disabled h) rfl rfl
  case fetch =>
    have hstep : step s = .next (s.takeInputs.resetSequence 0x08#8) :=
      (State.boundary_quiet hq).trans (State.executeNext_unimplemented hpc)
    exact State.resetSequence_taken 3 hstep rfl rfl

/-- A reset by a cause of the program keeps every plain byte (R311). -/
theorem State.resetSequence_plain (s : State) {causes : Byte} {a : Word} (hp : causes.getLsbD 7 = false)
    (hc : asynchronous causes = false) (h : s.plainAt a) : (s.resetSequence causes).byteAt a = s.byteAt a := by
  rcases h with h | h | h
  · exact s.resetSequence_ram hp h (.inl hc)
  · exact s.resetSequence_kept causes (.inr h)
  · exact s.resetSequence_kept causes (.inl h)

/-- Settles O9: each is a reset by ILOP from the state as it is. -/
theorem illegalOpcodeReset : Obligations.IllegalOpcodeReset := fun s _ =>
  ⟨fun _ hi => exec_illegal hi s, exec_stop_disabled, State.resetSequence_srsr_levels rfl,
    fun _ => s.resetSequence_plain rfl rfl⟩

/-- Settles O10: the fetch by the rules of the boundary, the data accesses by the rules of the bus. -/
theorem illegalAddressReset : Obligations.IllegalAddressReset := by
  intro s levels
  refine ⟨fun hq => ⟨fun h => ?_, fun h => ?_, fun h => ?_⟩, State.resetSequence_srsr_levels rfl, fun a h => ⟨?_, ?_⟩⟩
  · exact (State.boundary_quiet hq).trans (State.executeNext_unimplemented h)
  · exact (State.boundary_quiet hq).trans (State.executeNext_reserved h)
  · exact (State.boundary_quiet hq).trans (State.executeNext_device h)
  · exact State.withRead_unimplemented h
  · exact State.withWrite_unimplemented h

/-- Settles O31: the two instructions by definition, then the boundary of a sleeping CPU. -/
theorem lowPower : Obligations.LowPower := fun _ =>
  ⟨rfl, exec_stop_enabled, fun hrun hr hb hi => State.boundary_asleep hr hb hi hrun⟩

/-! ### Fetching an instruction from plain bytes -/

section
variable (s : State) (a : Word) (k : Instr → State → Out)

theorem State.withOperandBytes_op1 (g : Byte → Instr) :
    s.withOperandBytes (.op1 g) a k = s.withRead a fun v t => k (g v) t := rfl

theorem State.withOperandBytes_op16 (g : Word → Instr) :
    s.withOperandBytes (.op16 g) a k = s.withRead16 a fun v t => k (g v) t := rfl

theorem State.withOperandBytes_op2 (g : Byte → Byte → Instr) :
    s.withOperandBytes (.op2 g) a k = s.withRead a fun v t => t.withRead (a + 1) fun w u => k (g v w) u := rfl

end

/-- The operand bytes of a format are those that the decoder takes, when they are plain. -/
theorem State.withOperandBytes_plain {s : State} {f : Format} {pre l rest : List Byte} {a : Word} {i : Instr}
    (k : Instr → State → Out) (hf : f.Encodes pre)
    (h : f.complete (s.byteAt a :: s.byteAt (a + 1) :: l) = .ok (i, rest))
    (hp : ∀ n, pre.length + n < (encode i).length → s.plainAt (a + BitVec.ofNat 16 n)) :
    s.withOperandBytes f a k = k i s := by
  have hfirst : pre.length < (encode i).length → s.plainAt a := fun hl => by
    have h0 := hp 0 hl
    rwa [BitVec.add_zero] at h0
  cases f with
  | op0 j =>
    cases h
    rfl
  | op1 g =>
    cases h
    rw [State.withOperandBytes_op1, State.withRead_plain (hfirst (by simp [(hf _).1]))]
  | op16 g =>
    cases h
    rw [State.withOperandBytes_op16, State.withRead16_plain (hfirst (by simp [(hf _).1])) (hp 1 (by simp [(hf _).1]))]
  | op2 g =>
    cases h
    have hsecond : s.plainAt (a + 1) := hp 1 (by simp [(hf _ _).1])
    rw [State.withOperandBytes_op2, State.withRead_plain (hfirst (by simp [(hf _ _).1])), State.withRead_plain hsecond]

/-- The fetch of plain bytes gives the instruction they decode to (R105). -/
theorem State.withInstr_plain {q : State} {i : Instr} {rest : List Byte} (k : Instr → State → Out)
    (h : decode [q.byteAt q.pc, q.byteAt (q.pc + 1), q.byteAt (q.pc + 2), q.byteAt (q.pc + 3)] = .ok (i, rest))
    (hp : ∀ n, n < (encode i).length → q.plainAt (q.pc + BitVec.ofNat 16 n)) : q.withInstr k = k i q := by
  have hplus (m n : Nat) : q.pc + BitVec.ofNat 16 m + BitVec.ofNat 16 n = q.pc + BitVec.ofNat 16 (m + n) := by
    rw [BitVec.add_assoc, BitVec.ofNat_add]
  have hbyte : q.mem.read q.pc.toNat = q.byteAt q.pc := rfl
  unfold State.withInstr
  dsimp only
  rw [hbyte]
  by_cases hb : q.byteAt q.pc = 0x9E#8
  case pos =>
    rw [hb, decode_page2] at h
    rw [if_pos hb]
    cases hp2 : page2 (q.byteAt (q.pc + 1)) with
    | none =>
      rw [hp2] at h
      cases h
      have h1 : q.plainAt (q.pc + 1) := hp 1 (by simp [encode])
      rw [State.withRead_plain h1, hp2]
    | some f =>
      rw [hp2] at h
      have hf := page2_encodes hp2
      have h1 : q.plainAt (q.pc + 1) := hp 1 (hf.length_le h)
      rw [State.withRead_plain h1, hp2]
      exact State.withOperandBytes_plain (a := q.pc + 2) k hf ((hplus 2 1).symm ▸ h) fun n hn =>
        (hplus 2 n).symm ▸ hp _ hn
  case neg =>
    rw [decode_page1 (beq_eq_false_iff_ne.2 hb)] at h
    rw [if_neg hb]
    exact State.withOperandBytes_plain (a := q.pc + 1) k (page1_encodes _) ((hplus 1 1).symm ▸ h) fun n hn =>
      (hplus 1 n).symm ▸ hp _ hn

/-- The addresses of `n` bytes. -/
theorem mem_addressesFrom {a b : Word} {n : Nat} (h : b ∈ addressesFrom a n) :
    ∃ k, k < n ∧ b = a + BitVec.ofNat 16 k := by
  induction n generalizing a with
  | zero => cases h
  | succ n ih =>
    rcases List.mem_cons.1 h with h | h
    · exact ⟨0, Nat.succ_pos n, by rw [h, BitVec.add_zero]⟩
    · obtain ⟨k, hk, hb⟩ := ih h
      exact ⟨k + 1, Nat.succ_lt_succ hk, by rw [hb, BitVec.add_assoc, Nat.add_comm k, BitVec.ofNat_add]; rfl⟩

/-- An instruction of which the one before changed no byte is not stale (R67). -/
theorem State.fetchStale_eq_false {s : State} {n : Nat}
    (h : ∀ k, k < n → s.pc + BitVec.ofNat 16 k ∉ s.justStored) : s.fetchStale n = false := by
  rw [State.fetchStale, List.any_eq_false]
  intro b hb
  obtain ⟨k, hk, rfl⟩ := mem_addressesFrom hb
  rw [List.contains_iff_mem]
  exact h k hk

/-- Settles O11: a quiet boundary executes what is fetched, and plain bytes are fetched as they decode. -/
theorem stepRunsDecoded : Obligations.StepRunsDecoded := by
  intro s i rest q hq _ h hp hs
  have hlength : 0 < (encode i).length := by cases i <;> exact Nat.succ_pos _
  have hplain : q.plainAt q.pc := by
    have h0 := hp 0 hlength
    rwa [BitVec.add_zero] at h0
  have hfresh : q.fetchStale i.length = false := State.fetchStale_eq_false hs
  calc step s = q.runAtPc := (State.boundary_quiet hq).trans (State.executeNext_plain hplain)
    _ = if q.fetchStale i.length then .refused (.storeIntoNext q.pc) else
          exec i ((q.begin i.length).setLink (q.link.follow q.mode i)) := State.withInstr_plain _ h hp
    _ = exec i ((q.begin i.length).setLink (q.link.follow q.mode i)) := by
      rw [hfresh]
      rfl

end Sys2Proof.Machine

/-! SUPPORT. The CCR byte, the memory map, and which interrupt is taken (spec/10_state.md R25, R32,
spec/20_memory.md R51, spec/60_exceptions.md section 3). -/

namespace Sys2Proof.Machine

/-! ### The CCR byte -/

/-- The bits of a CCR byte (R25). -/
theorem Flags.toByte_getLsbD (f : Flags) :
    f.toByte.getLsbD 7 = f.v ∧ f.toByte.getLsbD 6 = true ∧ f.toByte.getLsbD 5 = true ∧ f.toByte.getLsbD 4 = f.h ∧
    f.toByte.getLsbD 3 = f.i ∧ f.toByte.getLsbD 2 = f.n ∧ f.toByte.getLsbD 1 = f.z ∧ f.toByte.getLsbD 0 = f.c := by
  obtain ⟨v, h, i, n, z, c⟩ := f
  revert v h i n z c
  decide

/-- The flags of a CCR byte are those it was made of. -/
@[simp] theorem Flags.ofByte_toByte (f : Flags) : Flags.ofByte f.toByte = f := by
  obtain ⟨hv, -, -, hh, hi, hn, hz, hc⟩ := f.toByte_getLsbD
  rw [Flags.ofByte, hv, hh, hi, hn, hz, hc]

/-- A byte taken as CCR keeps all but bits 6 and 5 (R32, D32). -/
theorem Flags.toByte_ofByte (b : Byte) : (Flags.ofByte b).toByte = b ||| 0x60#8 := by
  obtain ⟨hv, h6, h5, hh, hi, hn, hz, hc⟩ := (Flags.ofByte b).toByte_getLsbD
  refine BitVec.eq_of_getLsbD_eq fun k hk => ?_
  rw [BitVec.getLsbD_or]
  match k, hk with
  | 0, _ => exact hc.trans (Bool.or_false _).symm
  | 1, _ => exact hz.trans (Bool.or_false _).symm
  | 2, _ => exact hn.trans (Bool.or_false _).symm
  | 3, _ => exact hi.trans (Bool.or_false _).symm
  | 4, _ => exact hh.trans (Bool.or_false _).symm
  | 5, _ => exact h5.trans (Bool.or_true _).symm
  | 6, _ => exact h6.trans (Bool.or_true _).symm
  | 7, _ => exact hv.trans (Bool.or_false _).symm
  | n + 8, hk => omega

/-- Settles O16: bit by bit. -/
theorem ccrByte : Obligations.CcrByte := by
  refine ⟨fun f => ?_, Flags.toByte_ofByte⟩
  obtain ⟨hv, h6, h5, hh, hi, hn, hz, hc⟩ := f.toByte_getLsbD
  exact ⟨hv, h6, h5, hh, hi, hn, hz, hc, f.ofByte_toByte⟩

/-! ### The memory map -/

/-- FLASH begins at $EE00 on the large chips, else at $F800 (R52). -/
theorem flashBase_eq (v : Variant) : flashBase v = if v = .qt4 ∨ v = .qy4 then 0xEE00 else 0xF800 := by
  cases v <;> rfl

/-- The rows follow one another from address `n` up to address `m`. -/
def RowsFollow (m : Nat) : Nat → List (Nat × Nat × Region) → Prop
  | n, [] => n = m
  | n, r :: rows => r.1 = n ∧ RowsFollow m (r.2.1 + 1) rows

/-- Rows that follow one another hold every address between their ends. -/
theorem RowsFollow.cover {m n a : Nat} {rows : List (Nat × Nat × Region)} (h : RowsFollow m n rows) (hn : n ≤ a)
    (hm : a < m) : ∃ r ∈ rows, r.1 ≤ a ∧ a ≤ r.2.1 := by
  induction rows generalizing n with
  | nil =>
    have hend : n = m := h
    omega
  | cons r rows ih =>
    obtain ⟨hlo, hrows⟩ := h
    by_cases ha : a ≤ r.2.1
    · exact ⟨r, List.mem_cons_self, hlo ▸ hn, ha⟩
    · obtain ⟨r', hr', hbounds⟩ := ih hrows (by omega)
      exact ⟨r', List.mem_cons_of_mem r hr', hbounds⟩

/-- Settles O17: each row by the bounds of the map's cases, and the rows follow one another. -/
theorem memoryMap : Obligations.MemoryMap := by
  intro p
  rw [← flashBase_eq p.variant]
  intro base rows
  have hbounds := flashBase_bounds p.variant
  constructor
  case left =>
    simp only [rows, base, List.forall_mem_cons]
    refine ⟨?_, ?_, ?_, ?_, ?_, ?_, ?_, ?_, ?_, ?_, ?_, ?_, ?_, ?_, ?_, ?_, ?_, ?_, ?_, fun _ h => by cases h⟩
    all_goals
      intro a hlo hhi
      simp (disch := omega) only [region, if_pos, if_neg]
  case right =>
    have hfollow : RowsFollow 0x10000 0 rows := by
      simp only [RowsFollow, rows, base, true_and, and_true]
      omega
    exact fun a => hfollow.cover (Nat.zero_le _) a.isLt

/-! ### Which interrupt is taken -/

/-- The search of a list whose numbers rise finds the member with the lowest number. -/
theorem find_eq_some_iff_lowest {l : List IntSource} (p : IntSource → Bool) (src : IntSource)
    (h : l.Pairwise fun a b => a.number < b.number) :
    l.find? p = some src ↔ src ∈ l ∧ p src = true ∧ ∀ o ∈ l, o.number < src.number → p o = false := by
  induction l with
  | nil => simp
  | cons a l ih =>
    obtain ⟨hfirst, hrest⟩ := List.pairwise_cons.1 h
    cases ha : p a with
    | true =>
      rw [List.find?_cons_of_pos ha]
      constructor
      · rintro ⟨⟩
        refine ⟨List.mem_cons_self, ha, fun o ho hlt => ?_⟩
        rcases List.mem_cons.1 ho with rfl | ho
        · exact absurd hlt (Nat.lt_irrefl _)
        · exact absurd hlt (Nat.lt_asymm (hfirst o ho))
      · rintro ⟨hmem, -, hlow⟩
        rcases List.mem_cons.1 hmem with rfl | hmem
        · rfl
        · have hfalse : p a = false := hlow a List.mem_cons_self (hfirst src hmem)
          rw [ha] at hfalse
          cases hfalse
    | false =>
      rw [List.find?_cons_of_neg (by simp [ha]), ih hrest]
      constructor
      · rintro ⟨hmem, hsrc, hlow⟩
        exact ⟨List.mem_cons_of_mem a hmem, hsrc, List.forall_mem_cons.2 ⟨fun _ => ha, hlow⟩⟩
      · rintro ⟨hmem, hsrc, hlow⟩
        rcases List.mem_cons.1 hmem with rfl | hmem
        · rw [ha] at hsrc
          cases hsrc
        · exact ⟨hmem, hsrc, (List.forall_mem_cons.1 hlow).2⟩

theorem IntSource.mem_byPriority (src : IntSource) : src ∈ IntSource.byPriority := by
  cases src <;> decide

/-- The sources stand in the order of their IF numbers (R324). -/
theorem IntSource.byPriority_rising : IntSource.byPriority.Pairwise fun a b => a.number < b.number := by decide

/-- With I clear, no hold and an empty latch, the SIM serves the first source that it can. -/
theorem State.interruptPending_eq {s : State} (hlatch : s.sim.intLatch = none) (hi : s.ccr.i = false)
    (hh : s.irqHold = false) : s.interruptPending = IntSource.byPriority.find? s.canServe := by
  rw [State.interruptPending, hi, hh, State.served, hlatch]
  rfl

/-- Unless the CPU is stopped every request can be served. -/
theorem State.canServe_eq_requests {s : State} (h : s.run ≠ .stopped) : s.canServe = s.requests := by
  funext src
  simp [State.canServe, h]

/-- While it is stopped, the two sources that need no clock (R350). -/
theorem State.find_canServe_stopped {s : State} (h : s.run = .stopped) :
    IntSource.byPriority.find? s.canServe =
      if s.requests .irq then some .irq else if s.requests .keyboard then some .keyboard else none := by
  have hserve (src : IntSource) : s.canServe src = (s.requests src && src.worksInStop) := by
    simp [State.canServe, h]
  simp only [IntSource.byPriority, List.find?, hserve, IntSource.worksInStop, Bool.and_true, Bool.and_false]
  cases s.requests .irq <;> cases s.requests .keyboard <;> rfl

theorem hasAdc_eq (v : Variant) : hasAdc v = decide (v ≠ .qt1 ∧ v ≠ .qy1) := by
  cases v <;> rfl

/-- Settles O26: the latch is empty, so the choice is the search in the order of the IF numbers. -/
theorem interruptChoice : Obligations.InterruptChoice := by
  intro s hlatch
  refine ⟨?blocked, fun hi hh hrun => ?choice, fun hi hh hrun => ?stopped, rfl, rfl, rfl, rfl, rfl, ?adc, rfl, rfl, rfl,
    rfl, rfl, rfl⟩
  case blocked =>
    intro h
    have hblocked : (s.ccr.i || s.irqHold) = true := Bool.or_eq_true _ _ ▸ h
    exact if_pos hblocked
  case stopped => rw [State.interruptPending_eq hlatch hi hh, State.find_canServe_stopped hrun]
  case adc =>
    rw [← hasAdc_eq]
    rfl
  case choice =>
    rw [State.interruptPending_eq hlatch hi hh, State.canServe_eq_requests hrun]
    constructor
    · intro src
      rw [find_eq_some_iff_lowest s.requests src IntSource.byPriority_rising]
      simp [IntSource.mem_byPriority]
    · simp [List.find?_eq_none, IntSource.mem_byPriority]

end Sys2Proof.Machine

/-! SUPPORT. Taking an interrupt, a break and an SWI, the return, and the monitor's RUN (spec/60_exceptions.md
sections 3 to 6, spec/44_subroutines.md R282). -/

namespace Sys2Proof.Machine

/-! ### What an entry leaves -/

/-- An entry from `s` has led to `t`: the frame is stored, I is set, PC is `target`, the CPU runs, and all else but the
records of stored bytes is as before (R330, R331). -/
structure Entered (s t : State) (target : Word) : Prop where
  frame : FrameOf s t s.pc
  ccr : t.ccr = { s.ccr with i := true }
  pc : t.pc = target
  run : t.run = .running
  a : t.a = s.a
  h : t.h = s.h
  x : t.x = s.x
  mode : t.mode = s.mode
  sim : t.sim = s.sim
  brk : t.brk = s.brk
  mods : t.mods = s.mods
  pins : t.pins = s.pins
  cfg : t.cfg = s.cfg

/-- The entry through a vector in FLASH or ROM, over a frame in RAM. -/
theorem State.withException_entered {s : State} {vector : Word} (k : State → Out) (hw : Memory.wf s.mem = true)
    (hf : s.frameInRam)
    (hv : s.plainAt vector ∧ s.plainAt (vector + 1) ∧ 0x100 ≤ vector.toNat ∧ vector.toNat < 0xFFFF) :
    ∃ t, s.withException vector k = k t ∧ Entered s t (joinBytes (s.byteAt vector) (s.byteAt (vector + 1))) := by
  obtain ⟨hhi, hlo, hlow, hhigh⟩ := hv
  obtain ⟨t, hentry, hframe, -, ht⟩ := State.withException_ram k hw hf hhi hlo hlow hhigh
  exact ⟨t, hentry, hframe, by rw [ht], by rw [ht], by rw [ht], by rw [ht], by rw [ht], by rw [ht], by rw [ht],
    by rw [ht], by rw [ht], by rw [ht], by rw [ht], by rw [ht]⟩

/-- The SWI vector of each mode lies in FLASH or ROM, away from RAM. -/
theorem Mode.swiVector_place (m : Mode) (s : State) :
    s.plainAt m.swiVector ∧ s.plainAt (m.swiVector + 1) ∧ 0x100 ≤ m.swiVector.toNat ∧ m.swiVector.toNat < 0xFFFF := by
  cases m with
  | user => exact ⟨s.plainAt_vector (.inl (by decide)), s.plainAt_vector (.inl (by decide)), by decide, by decide⟩
  | monitor => exact ⟨s.plainAt_vector (.inr (by decide)), s.plainAt_vector (.inr (by decide)), by decide, by decide⟩

/-- The vectors of the maskable interrupts lie in FLASH, away from RAM (R323). -/
theorem IntSource.vector_place (src : IntSource) (s : State) :
    s.plainAt src.vector ∧ s.plainAt (src.vector + 1) ∧ 0x100 ≤ src.vector.toNat ∧ src.vector.toNat < 0xFFFF := by
  have hplace : 0xFFC2 ≤ src.vector.toNat ∧ 0xFFC2 ≤ (src.vector + 1).toNat ∧ src.vector.toNat < 0xFFFF := by
    cases src <;> decide
  obtain ⟨hhi, hlo, hhigh⟩ := hplace
  exact ⟨s.plainAt_vector (.inl hhi), s.plainAt_vector (.inl hlo), by omega, hhigh⟩

/-! ### SWI and the break -/

/-- What the SWI vector of a mode holds (R295, R357). -/
def State.swiTarget (s : State) : Word :=
  match s.mode with
  | .user => joinBytes (s.byteAt 0xFFFC#16) (s.byteAt 0xFFFD#16)
  | .monitor => joinBytes (s.byteAt 0xFEFC#16) (s.byteAt 0xFEFD#16)

theorem State.swiTarget_eq (s : State) :
    s.swiTarget = joinBytes (s.byteAt s.mode.swiVector) (s.byteAt (s.mode.swiVector + 1)) := by
  unfold State.swiTarget
  cases s.mode <;> rfl

/-- The entry through the SWI vector over a frame in RAM. -/
theorem State.withException_swi {s : State} (k : State → Out) (hw : Memory.wf s.mem = true) (hf : s.frameInRam) :
    ∃ t, s.withException s.mode.swiVector k = k t ∧ Entered s t s.swiTarget := by
  rw [s.swiTarget_eq]
  exact State.withException_entered k hw hf (s.mode.swiVector_place s)

/-- Settles O28: SWI is the entry through the SWI vector. -/
theorem softwareInterrupt : Obligations.SoftwareInterrupt := by
  refine ⟨rfl, fun s hw hf => ?_⟩
  obtain ⟨t, hexec, e⟩ := State.withException_swi .next hw hf
  exact ⟨t, hexec, e.frame, e.ccr, e.pc, e.run, e.a, e.h, e.x, e.mode, e.sim, e.mods, e.brk, e.pins⟩

/-- Settles O27: a break is the entry through the SWI vector at the boundary. -/
theorem breakEntry : Obligations.BreakEntry := by
  intro s q
  refine ⟨?pending, fun hr hb hw hf => ?entered⟩
  case pending =>
    simp only [State.breakPending, Bool.or_eq_true, Bool.and_eq_true, decide_eq_true_eq, and_assoc]
  case entered =>
    obtain ⟨t, hentry, e⟩ := State.withException_swi (s := q.setWritten [])
      (fun t => .next (((t.setBrk { t.brk with request := false, phase := .serving }).setLink
        (t.link.follow t.mode .swi)).setJustStored [])) hw hf
    have hbrk : { t.brk with request := false, phase := .serving } =
        { q.brk with request := false, phase := .serving } := by
      rw [e.brk]
      rfl
    exact ⟨_, (State.boundary_break hr hb).trans hentry, e.frame, e.ccr, e.pc, e.run, e.a, e.h, e.x, e.mode, e.sim,
      e.mods, hbrk⟩

/-! ### The interrupt -/

/-- An address above an SP that is lower by `n`. -/
theorem word_sub_add (w n m : Word) : w - n + m = w - (n - m) := by
  bv_omega

/-- Below SP the frame of an entry is where SP-relative addressing finds it (R331). -/
theorem FrameOf.sp1 {s t : State} {ret : Word} (h : FrameOf s t ret) :
    t.byteAt ((AddrMode.sp1 0x01#8).ea t) = s.ccr.toByte ∧ t.byteAt ((AddrMode.sp1 0x02#8).ea t) = s.a ∧
    t.byteAt ((AddrMode.sp1 0x03#8).ea t) = s.x ∧ t.byteAt ((AddrMode.sp1 0x04#8).ea t) = hiByte ret ∧
    t.byteAt ((AddrMode.sp1 0x05#8).ea t) = loByte ret := by
  obtain ⟨hlo, hhi, hx, ha, hccr, hsp, -⟩ := h
  have hea (n : Byte) : (AddrMode.sp1 n).ea t = s.sp - (5 - zext16 n) := by
    show t.sp + zext16 n = _
    rw [hsp, word_sub_add]
  have htop : s.sp - (5 - zext16 0x05#8) = s.sp := BitVec.sub_zero _
  rw [hea, hea, hea, hea, hea, htop]
  exact ⟨hccr, ha, hx, hhi, hlo⟩

/-- The modules after the interrupt of a source is taken: /IRQ's latch is cleared by its own alone (R329). -/
def IntSource.acknowledged (src : IntSource) (m : Modules) : Modules :=
  if src = .irq then { m with irq := { m.irq with latch := false } } else m

/-- Settles O25: an interrupt is the entry through its vector at the boundary. -/
theorem interruptEntry : Obligations.InterruptEntry := by
  intro s src q hr hb hi hw hf
  obtain ⟨t, hentry, e⟩ := State.withException_entered
    (s := (q.setSim { q.sim with intLatch := some src }).setWritten [])
    (fun t => .next (((t.setSim { t.sim with intLatch := none }).setMods (src.acknowledged t.mods)).setJustStored []))
    hw hf (src.vector_place _)
  have hframe : FrameOf q t q.pc := e.frame
  have hsim : { t.sim with intLatch := none } = { q.sim with intLatch := none } := by
    rw [e.sim]
    rfl
  have hmods : src.acknowledged t.mods = src.acknowledged q.mods := by
    rw [e.mods]
    rfl
  obtain ⟨h1, h2, h3, h4, h5⟩ := hframe.sp1
  exact ⟨_, (State.boundary_interrupt hr hb hi).trans hentry, hframe, e.ccr, e.pc, e.run, e.a, e.h, e.x, e.mode,
    hsim, e.brk, e.pins, hmods, h1, h2, h3, h4, h5⟩

/-! ### The return -/

/-- A monitor ROM address with no cell reads as the ROM's byte. -/
theorem Memory.unlisted_monitorRom {a : Nat} (h : 0xFE10 ≤ a) (h' : a < 0xFFB0) :
    Memory.unlisted a = monitorRomByte a := by
  simp (disch := omega) only [Memory.unlisted, if_pos, if_neg]

/-- The monitor ROM holds the PULH and RTI of RUN (R358). -/
theorem monitorRomByte_run : monitorRomByte monitorRunAt = 0x8A#8 ∧ monitorRomByte (monitorRunAt + 1) = 0x80#8 := by
  refine ⟨if_pos rfl, ?_⟩
  rw [monitorRomByte, if_neg (Nat.succ_ne_self _), if_pos rfl]

/-- Settles O29: RTI is the return, and RUN a command served at the boundary. -/
theorem returnFromInterrupt : Obligations.ReturnFromInterrupt := by
  refine ⟨rfl, fun s hf => State.withReturn_plain .next hf, fun s => ?run, ?rom⟩
  case run => exact fun hr hb hi hrun hc => State.boundary_host hr hb hi hrun hc
  case rom =>
    have hrange := monitorRunAt_range
    obtain ⟨hpulh, hrti⟩ := monitorRomByte_run
    refine ⟨by omega, by omega, ?_, ?_, rfl⟩
    · rw [← hpulh]
      exact Memory.unlisted_monitorRom (by omega) (by omega)
    · rw [← hrti]
      exact Memory.unlisted_monitorRom (by omega) (by omega)

/-- A state that keeps the parameters and has SP five below a frame in RAM has that frame above SP. -/
theorem State.frameAbove_of_frameInRam {s t : State} (hcfg : t.cfg = s.cfg) (hsp : t.sp = s.sp - 5)
    (h : s.frameInRam) : t.frameAbove := by
  obtain ⟨h0, h1, h2, h3, h4⟩ := h
  have hplain {a : Word} (ha : s.ramAt a) : t.plainAt a := by
    rw [State.plainAt, hcfg]
    exact .inl ha
  unfold State.frameAbove
  rw [hsp, word_sub_add, word_sub_add, word_sub_add, word_sub_add, BitVec.sub_add_cancel]
  exact ⟨hplain h4, hplain h3, hplain h2, hplain h1, hplain h0⟩

/-- RTI from the frame of an entry takes the entry's registers back (R333). -/
theorem exec_rti_frame {s t : State} {ret : Word} (hcfg : t.cfg = s.cfg) (hf : s.frameInRam) (h : FrameOf s t ret) :
    exec .rti t = .next
      { t with
        ccr := s.ccr, a := s.a, x := s.x, pc := ret, sp := s.sp,
        brk := { t.brk with phase := if t.brk.phase = .serving then .returned else t.brk.phase } } := by
  obtain ⟨hlo, hhi, hx, ha, hccr, hsp, -⟩ := h
  have hplace (n : Word) : t.sp + n = s.sp - (5 - n) := by rw [hsp, word_sub_add]
  have h1 : t.byteAt (t.sp + 1) = s.ccr.toByte := hplace 1 ▸ hccr
  have h2 : t.byteAt (t.sp + 2) = s.a := hplace 2 ▸ ha
  have h3 : t.byteAt (t.sp + 3) = s.x := hplace 3 ▸ hx
  have h4 : t.byteAt (t.sp + 4) = hiByte ret := hplace 4 ▸ hhi
  have htop : t.sp + 5 = s.sp := by rw [hsp, BitVec.sub_add_cancel]
  calc exec .rti t = t.withReturn .next := rfl
    _ = _ := State.withReturn_plain .next (State.frameAbove_of_frameInRam hcfg hsp hf)
    _ = _ := by rw [h1, h2, h3, h4, htop, hlo, Flags.ofByte_toByte, joinBytes_hi_lo]

/-- Settles O30: the frame of the SWI is the frame that the RTI takes back. -/
theorem swiThenRti : Obligations.SwiThenRti := by
  intro s hw hf
  obtain ⟨t, hexec, e⟩ := State.withException_swi .next hw hf
  exact ⟨t, _, hexec, exec_rti_frame e.cfg hf e.frame, rfl, rfl, e.h, rfl, rfl, rfl, e.mode⟩

end Sys2Proof.Machine
